-- ==== Sys2Proof/Word.lean ====
section
/-! DEFINITION. The word types of the engine (00_scope.md R4): an 8-bit field element or codeword, a 32-bit command word. -/

namespace Sys2Proof

/-- A field element, a codeword or a table entry: 8 bits (R4). -/
abbrev Byte := BitVec 8

/-- A command word, and the width of a control register as the host reads it: 32 bits (R4, R14). -/
abbrev Word := BitVec 32

end Sys2Proof
end

