-- ==== Sys2Proof/Config.lean ====
section
/-! DEFINITION. What an implementation fixes: the four size parameters of 00_scope.md R3. There are no free values:
93_implementation_defined.md says that no behaviour of the engine is left open. -/

namespace Sys2Proof.Config

/-- The four size parameters of R3. A machine is given one such structure: its state carries it (`State.sizes`, assumption
log entry 3), and every check of a size reads it there. -/
structure Params where
  /-- Capacity of DMEM in bytes. -/
  dmax : Nat
  /-- Capacity of EMEM in bytes. -/
  emax : Nat
  /-- Capacity of OMEM in bytes. -/
  omax : Nat
  /-- Largest generator degree; GEN holds `rmax + 1` bytes. -/
  rmax : Nat
  deriving DecidableEq, Repr

/-- The constraints R3 puts on any choice of the parameters. -/
def Params.legal (p : Params) : Bool :=
  decide (1 ≤ p.dmax) && decide (p.dmax ≤ 65535) &&
  decide (p.rmax ≤ p.emax) && decide (p.emax ≤ 65535) &&
  decide (1 ≤ p.omax) && decide (p.omax ≤ 65535) &&
  decide (1 ≤ p.rmax) && decide (p.rmax ≤ 32767)

/-- The values R3 decides for the QREC engine. -/
def qrec : Params := { dmax := 4096, emax := 4096, omax := 4096, rmax := 255 }

end Sys2Proof.Config
end

