-- ==== Sys2Proof/Syntax.lean ====
section
/-! DEFINITION. The commands of the engine as syntax: one constructor per row of spec/opcode_table.json
(30_encoding.md R55), with the operands of R51 and R54. -/

namespace Sys2Proof

/-- A GF register `g0` to `g7`: the three significant bits of a 4-bit register field (R53). -/
abbrev Reg := BitVec 3

/-- A command (R55). `CSRW` has three rows, one per writable configuration register. -/
inductive Instr where
  /-- `NOP` (R120). -/
  | nop
  /-- `BEGIN` (R121). -/
  | beginEncode
  /-- `GFINIT` (R78). -/
  | gfinit
  /-- `GFFIN` (R79). -/
  | gffin
  /-- `CSRW CFG_T, imm16` (R122). -/
  | csrwT (imm16 : BitVec 16)
  /-- `CSRW CFG_D, imm16` (R122). -/
  | csrwD (imm16 : BitVec 16)
  /-- `CSRW CFG_N, imm16` (R122). -/
  | csrwN (imm16 : BitVec 16)
  /-- `LI rd, imm8` (R80). -/
  | li (rd : Reg) (imm8 : Byte)
  /-- `GFADD rd, ra, rb` (R81). -/
  | gfadd (rd ra rb : Reg)
  /-- `GFMUL rd, ra, rb` (R82). -/
  | gfmul (rd ra rb : Reg)
  /-- `GFDIV rd, ra, rb` (R83): `ra` is the dividend, `rb` the divisor. -/
  | gfdiv (rd ra rb : Reg)
  /-- `GFEXP rd, ra` (R84). -/
  | gfexp (rd ra : Reg)
  /-- `GFLOG rd, ra` (R85). -/
  | gflog (rd ra : Reg)
  /-- `DPUSHI imm8` (R123). -/
  | dpushi (imm8 : Byte)
  /-- `DPUSH rs` (R124). -/
  | dpush (rs : Reg)
  /-- `LDD rd, addr16` (R125). -/
  | ldd (rd : Reg) (addr16 : BitVec 16)
  /-- `LDE rd, addr16` (R126). -/
  | lde (rd : Reg) (addr16 : BitVec 16)
  /-- `LDO rd, addr16` (R127). -/
  | ldo (rd : Reg) (addr16 : BitVec 16)
  /-- `LDG rd, addr16` (R128). -/
  | ldg (rd : Reg) (addr16 : BitVec 16)
  /-- `RSGEN imm16` (R93); the immediate is a signed count (R54). -/
  | rsgen (imm16 : BitVec 16)
  /-- `RSENC imm16` (R94); the immediate is a signed count (R54). -/
  | rsenc (imm16 : BitVec 16)
  /-- `ILAYOUT` (R107). -/
  | ilayout
  /-- `ILV` (R108). -/
  | ilv
  /-- `ONEXT rd` (R109). -/
  | onext (rd : Reg)
  deriving DecidableEq, Repr

end Sys2Proof
end

