-- ==== Sys2Proof/WellFormed.lean ====
section
/-! DEFINITION. When a 32-bit word is a legal command (30_encoding.md R52, R53, R55, R56): the opcode map as rows of
match and mask, and the four checks of R56 one by one. The operands of `Instr` are typed, so every term of `Instr` is
well-formed; what can be ill-formed is a word. The decoder (Decode.lean) does not use this file. -/

namespace Sys2Proof

/-- The reasons R56 gives for a word to be illegal: its cases (a) to (d). -/
inductive IllegalReason where
  /-- (a) word[31:24] is none of the 22 defined opcodes. -/
  | undefinedOpcode
  /-- (b) a reserved bit is nonzero (R52). -/
  | reservedBits
  /-- (c) a register field is above 7 (R53). -/
  | registerField
  /-- (d) `CSRW` to a register other than `CFG_T`, `CFG_D`, `CFG_N`. -/
  | csrNotWritable
  deriving DecidableEq, Repr

namespace WellFormed

/-- A row of R55: a word `w` is an instance exactly when `w and mask = pattern`. -/
structure Row where
  pattern : Word
  mask : Word
  deriving DecidableEq, Repr

/-- `w and mask = pattern`. -/
def Row.admits (r : Row) (w : Word) : Bool := w &&& r.mask == r.pattern

/-- The opcode map, the 24 rows of R55 in its order. -/
def opcodeMap : List Row := [
  ⟨0x00000000, 0xFFFFFFFF⟩,  -- NOP
  ⟨0x01000000, 0xFFFFFFFF⟩,  -- BEGIN
  ⟨0x02000000, 0xFFFFFFFF⟩,  -- GFINIT
  ⟨0x03000000, 0xFFFFFFFF⟩,  -- GFFIN
  ⟨0x08000000, 0xFFFF0000⟩,  -- CSRW CFG_T
  ⟨0x08010000, 0xFFFF0000⟩,  -- CSRW CFG_D
  ⟨0x08020000, 0xFFFF0000⟩,  -- CSRW CFG_N
  ⟨0x10000000, 0xFF8FFF00⟩,  -- LI
  ⟨0x11000000, 0xFF888FFF⟩,  -- GFADD
  ⟨0x12000000, 0xFF888FFF⟩,  -- GFMUL
  ⟨0x13000000, 0xFF888FFF⟩,  -- GFDIV
  ⟨0x14000000, 0xFF88FFFF⟩,  -- GFEXP
  ⟨0x15000000, 0xFF88FFFF⟩,  -- GFLOG
  ⟨0x20000000, 0xFFFFFF00⟩,  -- DPUSHI
  ⟨0x21000000, 0xFF8FFFFF⟩,  -- DPUSH
  ⟨0x24000000, 0xFF8F0000⟩,  -- LDD
  ⟨0x25000000, 0xFF8F0000⟩,  -- LDE
  ⟨0x26000000, 0xFF8F0000⟩,  -- LDO
  ⟨0x27000000, 0xFF8F0000⟩,  -- LDG
  ⟨0x30000000, 0xFFFF0000⟩,  -- RSGEN
  ⟨0x31000000, 0xFFFF0000⟩,  -- RSENC
  ⟨0x38000000, 0xFFFFFFFF⟩,  -- ILAYOUT
  ⟨0x39000000, 0xFFFFFFFF⟩,  -- ILV
  ⟨0x3A000000, 0xFF8FFFFF⟩]  -- ONEXT

/-- R62: a word is legal when it matches a row of the opcode map. -/
def legalWord (w : Word) : Bool := opcodeMap.any (·.admits w)

/-- The nine formats of R51. -/
inductive Format where
  | n | r3 | r2 | r1 | ri | i8 | ra | ci | i16
  deriving DecidableEq, Repr

/-- word[31:24] (R50). -/
def opcodeField (w : Word) : BitVec 8 := w.extractLsb' 24 8

/-- The format each defined opcode uses (R51, R55); none for the 234 undefined values (R56). -/
def formatOf (op : BitVec 8) : Option Format :=
  if op ∈ [0x00#8, 0x01#8, 0x02#8, 0x03#8, 0x38#8, 0x39#8] then some .n
  else if op = 0x08#8 then some .ci
  else if op = 0x10#8 then some .ri
  else if op ∈ [0x11#8, 0x12#8, 0x13#8] then some .r3
  else if op ∈ [0x14#8, 0x15#8] then some .r2
  else if op = 0x20#8 then some .i8
  else if op ∈ [0x21#8, 0x3A#8] then some .r1
  else if op ∈ [0x24#8, 0x25#8, 0x26#8, 0x27#8] then some .ra
  else if op ∈ [0x30#8, 0x31#8] then some .i16
  else none

/-- The bits R51 marks "0" in a format, as a mask. -/
def reservedMask : Format → Word
  | .n => 0x00FFFFFF
  | .r3 => 0x00000FFF
  | .r2 => 0x0000FFFF
  | .r1 => 0x000FFFFF
  | .ri => 0x000FFF00
  | .i8 => 0x00FFFF00
  | .ra => 0x000F0000
  | .ci => 0x00000000
  | .i16 => 0x00FF0000

/-- Bit 3 of every register field of a format (R53), as a mask. -/
def registerMask : Format → Word
  | .r3 => 0x00888000
  | .r2 => 0x00880000
  | .r1 | .ri | .ra => 0x00800000
  | .n | .i8 | .ci | .i16 => 0

/-- R56 (a): the opcode is one of the 22 defined values. -/
def opcodeDefined (w : Word) : Bool := (formatOf (opcodeField w)).isSome

/-- R52, R56 (b): every reserved bit of the word's format is zero. -/
def reservedClear (w : Word) : Bool :=
  match formatOf (opcodeField w) with
  | some f => w &&& reservedMask f == 0
  | none => true

/-- R53, R56 (c): no register field of the word's format is above 7. -/
def registersInRange (w : Word) : Bool :=
  match formatOf (opcodeField w) with
  | some f => w &&& registerMask f == 0
  | none => true

/-- R56 (d): a `CSRW` names 0x00, 0x01 or 0x02. -/
def csrWritable (w : Word) : Bool :=
  opcodeField w != 0x08#8 || [0x00#8, 0x01#8, 0x02#8].contains (w.extractLsb' 16 8)

/-- R56: none of its four cases holds. -/
def wellFormedWord (w : Word) : Bool :=
  opcodeDefined w && reservedClear w && registersInRange w && csrWritable w

end WellFormed
end Sys2Proof
end

