-- ==== Sys2Proof/Decode.lean ====
section
/-! DEFINITION. The decoder (30_encoding.md R50 to R58, R62), total on all 2^32 words and rejecting by name, and the
encoder, both written from the formats of R51 and the opcodes of R55. -/

namespace Sys2Proof

/-- word[31:24] (R50). -/
def opcodeOf (w : Word) : BitVec 8 := w.extractLsb' 24 8

/-- The register field whose low bit is bit `lo` of the word, without its must-be-zero bit 3 (R53). -/
def regAt (w : Word) (lo : Nat) : Reg := w.extractLsb' lo 3

/-- Bit 3 of the register field whose low bit is bit `lo` of the word: the field selects no register (R53). -/
def regTooHigh (w : Word) (lo : Nat) : Bool := w.extractLsb' (lo + 3) 1 != 0

/-- `imm8` = word[7:0] (R54). -/
def imm8Of (w : Word) : Byte := w.extractLsb' 0 8

/-- `addr16` and `imm16` = word[15:0] (R54). -/
def imm16Of (w : Word) : BitVec 16 := w.extractLsb' 0 16

/-- Format N (R51): bits 23:0 reserved. -/
def decodeN (w : Word) (i : Instr) : Except IllegalReason Instr :=
  if w.extractLsb' 0 24 = 0#24 then .ok i else .error .reservedBits

/-- Format R3 (R51): `rd`, `ra`, `rb`, then bits 11:0 reserved. -/
def decodeR3 (w : Word) (mk : Reg → Reg → Reg → Instr) : Except IllegalReason Instr :=
  if w.extractLsb' 0 12 ≠ 0#12 then .error .reservedBits
  else if regTooHigh w 20 || regTooHigh w 16 || regTooHigh w 12 then .error .registerField
  else .ok (mk (regAt w 20) (regAt w 16) (regAt w 12))

/-- Format R2 (R51): `rd`, `ra`, then bits 15:0 reserved. -/
def decodeR2 (w : Word) (mk : Reg → Reg → Instr) : Except IllegalReason Instr :=
  if w.extractLsb' 0 16 ≠ 0#16 then .error .reservedBits
  else if regTooHigh w 20 || regTooHigh w 16 then .error .registerField
  else .ok (mk (regAt w 20) (regAt w 16))

/-- Format R1 (R51): `r`, then bits 19:0 reserved. -/
def decodeR1 (w : Word) (mk : Reg → Instr) : Except IllegalReason Instr :=
  if w.extractLsb' 0 20 ≠ 0#20 then .error .reservedBits
  else if regTooHigh w 20 then .error .registerField
  else .ok (mk (regAt w 20))

/-- Format RI (R51): `rd`, bits 19:8 reserved, `imm8`. -/
def decodeRI (w : Word) (mk : Reg → Byte → Instr) : Except IllegalReason Instr :=
  if w.extractLsb' 8 12 ≠ 0#12 then .error .reservedBits
  else if regTooHigh w 20 then .error .registerField
  else .ok (mk (regAt w 20) (imm8Of w))

/-- Format I8 (R51): bits 23:8 reserved, `imm8`. -/
def decodeI8 (w : Word) (mk : Byte → Instr) : Except IllegalReason Instr :=
  if w.extractLsb' 8 16 ≠ 0#16 then .error .reservedBits else .ok (mk (imm8Of w))

/-- Format RA (R51): `rd`, bits 19:16 reserved, `addr16`. -/
def decodeRA (w : Word) (mk : Reg → BitVec 16 → Instr) : Except IllegalReason Instr :=
  if w.extractLsb' 16 4 ≠ 0#4 then .error .reservedBits
  else if regTooHigh w 20 then .error .registerField
  else .ok (mk (regAt w 20) (imm16Of w))

/-- Format CI (R51): `csr` = word[23:16], `imm16`; only 0x00, 0x01 and 0x02 are writable (R54, R56 (d)). -/
def decodeCI (w : Word) : Except IllegalReason Instr :=
  match w.extractLsb' 16 8 with
  | 0x00#8 => .ok (.csrwT (imm16Of w))
  | 0x01#8 => .ok (.csrwD (imm16Of w))
  | 0x02#8 => .ok (.csrwN (imm16Of w))
  | _ => .error .csrNotWritable

/-- Format I16 (R51): bits 23:16 reserved, `imm16`. -/
def decodeI16 (w : Word) (mk : BitVec 16 → Instr) : Except IllegalReason Instr :=
  if w.extractLsb' 16 8 ≠ 0#8 then .error .reservedBits else .ok (mk (imm16Of w))

/-- R62: the command a word encodes, or why it is illegal (R56). It reads no engine state. -/
def decode (w : Word) : Except IllegalReason Instr :=
  match opcodeOf w with
  | 0x00#8 => decodeN w .nop
  | 0x01#8 => decodeN w .beginEncode
  | 0x02#8 => decodeN w .gfinit
  | 0x03#8 => decodeN w .gffin
  | 0x08#8 => decodeCI w
  | 0x10#8 => decodeRI w .li
  | 0x11#8 => decodeR3 w .gfadd
  | 0x12#8 => decodeR3 w .gfmul
  | 0x13#8 => decodeR3 w .gfdiv
  | 0x14#8 => decodeR2 w .gfexp
  | 0x15#8 => decodeR2 w .gflog
  | 0x20#8 => decodeI8 w .dpushi
  | 0x21#8 => decodeR1 w .dpush
  | 0x24#8 => decodeRA w .ldd
  | 0x25#8 => decodeRA w .lde
  | 0x26#8 => decodeRA w .ldo
  | 0x27#8 => decodeRA w .ldg
  | 0x30#8 => decodeI16 w .rsgen
  | 0x31#8 => decodeI16 w .rsenc
  | 0x38#8 => decodeN w .ilayout
  | 0x39#8 => decodeN w .ilv
  | 0x3A#8 => decodeR1 w .onext
  | _ => .error .undefinedOpcode

/-- A 4-bit register field: bit 3 zero, then the register number (R53). -/
def regField (r : Reg) : BitVec 4 := 0#1 ++ r

/-- Format N (R51). -/
def encodeN (op : BitVec 8) : Word := op ++ 0#24

/-- Format R3 (R51). -/
def encodeR3 (op : BitVec 8) (rd ra rb : Reg) : Word := op ++ regField rd ++ regField ra ++ regField rb ++ 0#12

/-- Format R2 (R51). -/
def encodeR2 (op : BitVec 8) (rd ra : Reg) : Word := op ++ regField rd ++ regField ra ++ 0#16

/-- Format R1 (R51). -/
def encodeR1 (op : BitVec 8) (r : Reg) : Word := op ++ regField r ++ 0#20

/-- Format RI (R51). -/
def encodeRI (op : BitVec 8) (rd : Reg) (imm8 : Byte) : Word := op ++ regField rd ++ 0#12 ++ imm8

/-- Format I8 (R51). -/
def encodeI8 (op : BitVec 8) (imm8 : Byte) : Word := op ++ 0#16 ++ imm8

/-- Format RA (R51). -/
def encodeRA (op : BitVec 8) (rd : Reg) (addr16 : BitVec 16) : Word := op ++ regField rd ++ 0#4 ++ addr16

/-- Format CI (R51). -/
def encodeCI (op csr : BitVec 8) (imm16 : BitVec 16) : Word := op ++ csr ++ imm16

/-- Format I16 (R51). -/
def encodeI16 (op : BitVec 8) (imm16 : BitVec 16) : Word := op ++ 0#8 ++ imm16

/-- The word of a command (R51, R55). -/
def encode : Instr → Word
  | .nop => encodeN 0x00
  | .beginEncode => encodeN 0x01
  | .gfinit => encodeN 0x02
  | .gffin => encodeN 0x03
  | .csrwT imm16 => encodeCI 0x08 0x00 imm16
  | .csrwD imm16 => encodeCI 0x08 0x01 imm16
  | .csrwN imm16 => encodeCI 0x08 0x02 imm16
  | .li rd imm8 => encodeRI 0x10 rd imm8
  | .gfadd rd ra rb => encodeR3 0x11 rd ra rb
  | .gfmul rd ra rb => encodeR3 0x12 rd ra rb
  | .gfdiv rd ra rb => encodeR3 0x13 rd ra rb
  | .gfexp rd ra => encodeR2 0x14 rd ra
  | .gflog rd ra => encodeR2 0x15 rd ra
  | .dpushi imm8 => encodeI8 0x20 imm8
  | .dpush rs => encodeR1 0x21 rs
  | .ldd rd addr16 => encodeRA 0x24 rd addr16
  | .lde rd addr16 => encodeRA 0x25 rd addr16
  | .ldo rd addr16 => encodeRA 0x26 rd addr16
  | .ldg rd addr16 => encodeRA 0x27 rd addr16
  | .rsgen imm16 => encodeI16 0x30 imm16
  | .rsenc imm16 => encodeI16 0x31 imm16
  | .ilayout => encodeN 0x38
  | .ilv => encodeN 0x39
  | .onext rd => encodeR1 0x3A rd

/-- The host's question about one row of spec/opcode_table.json: what the decoder reads from an instruction whose bits
are `w`. A command is one 32-bit word, presented whole (R37, R50); the bits above `nbits` are zero. -/
def decodeTableWord (nbits w : Nat) : Option Instr :=
  match decode (BitVec.ofNat 32 (w % 2 ^ nbits)) with
  | .ok i => some i
  | .error _ => none

end Sys2Proof
end

