-- ==== Sys2Proof/Machine/State.lean ====
section
/-! DEFINITION. The state of the engine as plain data (10_state.md R10: this and nothing else), beside it the
machine's sizes and the host's input, the reasons a step can stop, and the state after reset (R23). -/

namespace Sys2Proof.Machine

/-- The contents of one of the six byte spaces (20_memory.md R30): (index, byte) pairs, indices strictly rising. An index
that is not listed holds no value (00_scope.md R8). -/
abbrev Memory := List Host.Cell

/-- The six private address spaces (R30). -/
inductive Space where
  | exp | log | dmem | emem | omem | gen
  deriving DecidableEq, Repr

/-- What the host can do to the engine (70_reset_and_hazards.md R175, R177). A host read (R176) changes nothing and is a
function of the state, `State.hostRead`. -/
inductive HostInput where
  /-- Assert the reset input (R170). -/
  | reset
  /-- Issue one command word (R177). -/
  | command (w : Word)
  deriving DecidableEq, Repr

/-- The cause codes of 60_exceptions.md R141. -/
inductive Cause where
  /-- Code 1; never raised by the engine (R141). -/
  | capacityExceeded
  /-- Code 2; never raised by the engine (R141). -/
  | invalidCharacter
  /-- Code 3. -/
  | malformedBitStream
  /-- Code 4. -/
  | fieldArithmeticError
  /-- Code 5; never raised by the engine (R141). -/
  | matrixBuildFailure
  /-- Code 6. -/
  | configError
  /-- Code 7. -/
  | tablesNotReady
  /-- Code 8. -/
  | illegalCommand
  /-- Code 9. -/
  | bufferBounds
  deriving DecidableEq, Repr

/-- The engine's state (R10), each location at the field width of R11, R14 and R30, the sizes the machine was
built with, and the host's input. -/
structure State where
  /-- GF registers `g0` to `g7` (R11). -/
  g : Vector Byte 8
  /-- `CFG_T`, total codewords (R15). -/
  cfgT : BitVec 16
  /-- `CFG_D`, data codewords (R15). -/
  cfgD : BitVec 16
  /-- `CFG_N`, block count (R15). -/
  cfgN : BitVec 16
  /-- `STATUS.TV`, tables valid (R13, R16). -/
  tv : Bool
  /-- `STATUS.FAULT`, a fault is latched (R13, R16). -/
  fault : Bool
  /-- `STATUS.LV`, layout valid (R13, R16). -/
  lv : Bool
  /-- `CAUSE` (R17). -/
  cause : BitVec 4
  /-- `FCMD`, the command word that faulted (R18). -/
  fcmd : Word
  /-- `FSEQ`, `CSEQ` when the fault was taken (R18). -/
  fseq : Word
  /-- `CSEQ`, commands completed since reset, modulo 2^32 (R12). -/
  cseq : Word
  /-- `DLEN`, valid length of DMEM (R19). -/
  dlen : BitVec 16
  /-- `ELEN`, valid length of EMEM (R19). -/
  elen : BitVec 16
  /-- `OLEN`, valid length of OMEM (R19). -/
  olen : BitVec 16
  /-- `OPTR`, index of the next codeword `ONEXT` hands out (R19). -/
  optr : BitVec 16
  /-- `GDEG`, degree of the generator in GEN, 0 for none (R19). -/
  gdeg : BitVec 16
  /-- `G1B`, `group1_blocks` (R20). -/
  g1b : BitVec 17
  /-- `G2B`, `group2_blocks` (R20). -/
  g2b : BitVec 17
  /-- `G1T`, `group1_total` (R20). -/
  g1t : BitVec 17
  /-- `G2T`, `group2_total` (R20). -/
  g2t : BitVec 17
  /-- `G1D`, `group1_data` (R20). -/
  g1d : BitVec 17
  /-- `G2D`, `group2_data` (R20). -/
  g2d : BitVec 17
  /-- `ECB`, EC bytes per block (R20). -/
  ecb : BitVec 17
  /-- EXP, the exponent table (R31). -/
  exp : Memory
  /-- LOG, the log table (R32). -/
  log : Memory
  /-- DMEM, the data buffer (R33). -/
  dmem : Memory
  /-- EMEM, the error-correction buffer (R34). -/
  emem : Memory
  /-- OMEM, the output buffer (R35). -/
  omem : Memory
  /-- GEN, the generator buffer (R36). -/
  gen : Memory
  /-- The model's own field: the size parameters the machine was built with (R3), which no step changes. DESIGN CHOICE
  (assumption log entry 3, safe): R3 has a model take them as arguments, and this is how `exec` and `step` get them. -/
  sizes : Config.Params
  /-- The model's own field: what the host will do next, oldest first. DESIGN CHOICE (assumption log entry 1, safe): the
  spec leaves the command stream with the host (R10, R40). -/
  input : List HostInput
  deriving DecidableEq, Repr

/-- R23: every location at its reset value, in the engine of the sizes R3 decides (assumption log entry 3). The host's input
is empty (DESIGN CHOICE, assumption log entry 1, safe). -/
def State.reset : State where
  g := Vector.replicate 8 0x00#8
  cfgT := 0
  cfgD := 0
  cfgN := 0
  tv := false
  fault := false
  lv := false
  cause := 0
  fcmd := 0
  fseq := 0
  cseq := 0
  dlen := 0
  elen := 0
  olen := 0
  optr := 0
  gdeg := 0
  g1b := 0
  g2b := 0
  g1t := 0
  g2t := 0
  g1d := 0
  g2d := 0
  ecb := 0
  exp := []
  log := []
  dmem := []
  emem := []
  omem := []
  gen := []
  sizes := Config.qrec
  input := []

/-- R23 for an engine of any sizes (R3): the reset values do not depend on them. -/
def State.resetOf (p : Config.Params) : State := { State.reset with sizes := p }

/-- The reasons the MODEL stops. A fault of the engine is no stop: it is a next state (R143). -/
inductive Fault where
  /-- A command read a location that holds no value (R8). Raised by the table-using commands, the loads, `ONEXT`,
  `RSENC` and `ILV`, only in states no run from reset reaches: R8 says no command ever reads such a location.
  Safe (assumption log entry 2). -/
  | noValue
  deriving DecidableEq, Repr

/-- The reasons the model refuses a command. -/
inductive Refusal where
  /-- The command has no meaning yet. Raised only by an arm of `exec`; no arm of this model raises it. Safe. -/
  | notModelled (mnemonic : String)
  deriving DecidableEq, Repr

end Sys2Proof.Machine
end

