-- ==== Sys2Proof/Machine/Ops.lean ====
section
/-! DEFINITION. The named operations: byte spaces, the updates of each group of locations, fault entry (60_exceptions.md
R143) and the way out of the faulted state (R145), and the execution of one command's rule (R154). -/

namespace Sys2Proof.Machine

/-! ### Byte spaces -/

/-- The byte at index `a`, or nothing where the space holds no value there (R8). What an unlisted index reads as is
decided here alone: no value. -/
def Memory.read : Memory → Nat → Option Byte
  | [], _ => none
  | (b, v) :: m, a => if b = a then some v else Memory.read m a

/-- The space with the byte `v` at index `a`; every other index is as before. Indices stay strictly rising. -/
def Memory.write : Memory → Nat → Byte → Memory
  | [], a, v => [(a, v)]
  | (b, w) :: m, a, v =>
    if a < b then (a, v) :: (b, w) :: m
    else if a = b then (a, v) :: m
    else (b, w) :: Memory.write m a v

/-- The bytes `bs` at indices `a`, `a + 1`, …, and no value anywhere else. -/
def Memory.fillFrom (a : Nat) : List Byte → Memory
  | [] => []
  | v :: bs => (a, v) :: Memory.fillFrom (a + 1) bs

/-- A buffer replaced as a whole: the bytes `bs` from index 0, and no value at or above their number (R34 to R36). -/
def Memory.fill (bs : List Byte) : Memory := Memory.fillFrom 0 bs

/-- The bytes at indices `off`, …, `off + n - 1`, or nothing if one of them holds no value. -/
def Memory.slice (m : Memory) (off n : Nat) : Option (List Byte) :=
  (List.range n).mapM fun x => Memory.read m (off + x)

/-- Every index in the space is at or above `a`, and the indices rise strictly. -/
def Memory.risesFrom : Nat → Memory → Bool
  | _, [] => true
  | a, (b, _) :: m => decide (a ≤ b) && Memory.risesFrom (b + 1) m

/-- The canonical form: indices strictly rising (no entry can equal what an unlisted index reads as, since that is no
value). Equal contents are then equal data. -/
def Memory.wf (m : Memory) : Bool := Memory.risesFrom 0 m

/-- A space by its name (R30). -/
def State.space (s : State) : Space → Memory
  | .exp => s.exp
  | .log => s.log
  | .dmem => s.dmem
  | .emem => s.emem
  | .omem => s.omem
  | .gen => s.gen

/-- One byte of one space, or nothing where it holds no value. -/
def State.readByte (s : State) (sp : Space) (a : Nat) : Option Byte := Memory.read (s.space sp) a

/-! ### Updates of the state, one per group of locations -/

/-- R33, R123: append one byte at index `DLEN`, and `DLEN <- DLEN + 1`. -/
def State.pushData (s : State) (v : Byte) : State :=
  { s with dmem := Memory.write s.dmem s.dlen.toNat v, dlen := s.dlen + 1 }

/-- R36, R93: GEN holds the coefficients `coeffs`, lowest degree first, and nothing else; `GDEG <- r`. -/
def State.setGenerator (s : State) (coeffs : List Byte) (r : Nat) : State :=
  { s with gen := Memory.fill coeffs, gdeg := BitVec.ofNat 16 r }

/-- R34, R94: EMEM holds `ec` and nothing else; `ELEN <- n`. -/
def State.setEc (s : State) (ec : List Byte) (n : Nat) : State :=
  { s with emem := Memory.fill ec, elen := BitVec.ofNat 16 n }

/-- R35, R108: OMEM holds `out` and nothing else; `OLEN <- n`, `OPTR <- 0`. -/
def State.setOutput (s : State) (out : List Byte) (n : Nat) : State :=
  { s with omem := Memory.fill out, olen := BitVec.ofNat 16 n, optr := 0 }

/-- R109: `OPTR <- OPTR + 1`. -/
def State.advanceOptr (s : State) : State := { s with optr := s.optr + 1 }

/-- R122: `CFG_T <- imm16; STATUS.LV <- 0`. -/
def State.setCfgT (s : State) (imm16 : BitVec 16) : State := { s with cfgT := imm16, lv := false }

/-- R122: `CFG_D <- imm16; STATUS.LV <- 0`. -/
def State.setCfgD (s : State) (imm16 : BitVec 16) : State := { s with cfgD := imm16, lv := false }

/-- R122: `CFG_N <- imm16; STATUS.LV <- 0`. -/
def State.setCfgN (s : State) (imm16 : BitVec 16) : State := { s with cfgN := imm16, lv := false }

/-- R78: the tables hold `exp` and `log`, and `STATUS.TV <- 1`. -/
def State.setTables (s : State) (exp log : Memory) : State := { s with exp := exp, log := log, tv := true }

/-- R79: `STATUS.TV <- 0`, and every entry of EXP and LOG holds no value. -/
def State.dropTables (s : State) : State := { s with exp := [], log := [], tv := false }

/-! ### Completion, fault entry, and the way out -/

/-- R12: a completed command adds 1 to `CSEQ`, modulo 2^32. -/
def State.complete (s : State) : State := { s with cseq := s.cseq + 1 }

/-- The numeric cause codes of R141. -/
def Cause.code : Cause → BitVec 4
  | .capacityExceeded => 1
  | .invalidCharacter => 2
  | .malformedBitStream => 3
  | .fieldArithmeticError => 4
  | .matrixBuildFailure => 5
  | .configError => 6
  | .tablesNotReady => 7
  | .illegalCommand => 8
  | .bufferBounds => 9

/-- Fault entry (R143) of the command word `w` with cause `c`: the four-field fault record, and nothing else changes. -/
def State.enterFault (s : State) (c : Cause) (w : Word) : State :=
  { s with fault := true, cause := c.code, fcmd := w, fseq := s.cseq }

/-- `BEGIN`'s effect (43_buffer_and_control.md R121), the only command that leaves the faulted state (R145): all per-encode
state back to its reset value, the fault record cleared; the tables, the GF registers and `CSEQ` stay. -/
def State.startEncode (s : State) : State :=
  { s with
    cfgT := 0, cfgD := 0, cfgN := 0,
    fault := false, lv := false, cause := 0, fcmd := 0, fseq := 0,
    dlen := 0, elen := 0, olen := 0, optr := 0, gdeg := 0,
    g1b := 0, g2b := 0, g1t := 0, g2t := 0, g1d := 0, g2d := 0, ecb := 0,
    dmem := [], emem := [], omem := [], gen := [] }

/-- What executing a command's rule on a copy of the state comes to (R154). -/
inductive Effect where
  /-- No cause was raised: the copy is committed. -/
  | commit (s : State)
  /-- A cause was raised: the copy is dropped. -/
  | raise (c : Cause)
  /-- The rule read a location that holds no value; no reachable state gives this (R8). -/
  | stuck
  deriving DecidableEq, Repr

/-- Go on with a value, where the locations read all hold one (R8). -/
def Effect.withValue {α : Type} (v : Option α) (k : α → Effect) : Effect :=
  match v with
  | some x => k x
  | none => .stuck

/-- The outcome of a command of word `w` (its one encoding, assumption log entry 5) whose rule has the effect `e` (R154):
discarded while a fault is latched (R144), else completed (R12) or turned into a fault entry (R143). -/
def runCommand (w : Word) (s : State) (e : Effect) : Host.Outcome State Fault Refusal :=
  if s.fault then .next s
  else
    match e with
    | .commit t => .next t.complete
    | .raise c => .next (s.enterFault c w)
    | .stuck => .fault .noValue

end Sys2Proof.Machine
end

