-- ==== Sys2Proof/Machine/Operands.lean ====
section
/-! DEFINITION. The operand forms: GF registers (10_state.md R11, 30_encoding.md R53), the signed count (R54), and the indices
that hold a value, which every load checks (R54, 43_buffer_and_control.md R125 to R128). -/

namespace Sys2Proof.Machine

/-- `g[r]` (R7, R11). -/
def State.reg (s : State) (r : Reg) : Byte := s.g[r.toNat]'r.isLt

/-- `g[r] <- v` (R7, R11). -/
def State.setReg (s : State) (r : Reg) (v : Byte) : State := { s with g := s.g.set r.toNat v r.isLt }

/-- `r = sext_16(imm16)`: the signed count of `RSGEN` and `RSENC` (R6, R54). -/
def signedCount (imm16 : BitVec 16) : Int := imm16.toInt

/-- Whether index `i` of a space holds a value (R30): the table entries while `TV = 1`, the bytes below `DLEN`, `ELEN` and
`OLEN`, and the bytes 0 to `GDEG` inclusive when `GDEG > 0`. -/
def State.validIndex (s : State) (sp : Space) (i : Nat) : Bool :=
  match sp with
  | .exp => s.tv && decide (i ≤ 254)
  | .log => s.tv && decide (1 ≤ i) && decide (i ≤ 255)
  | .dmem => decide (i < s.dlen.toNat)
  | .emem => decide (i < s.elen.toNat)
  | .omem => decide (i < s.olen.toNat)
  | .gen => s.gdeg != 0 && decide (i ≤ s.gdeg.toNat)

/-- A load command (R125 to R128): `g[rd]` gets the byte of the space at the absolute index `a`, never wrapped; where
that byte holds no value it raises `BufferBounds`. -/
def loadByte (s : State) (sp : Space) (rd : Reg) (a : BitVec 16) : Effect :=
  if s.validIndex sp a.toNat then Effect.withValue (s.readByte sp a.toNat) fun v => .commit (s.setReg rd v)
  else .raise .bufferBounds

/-- `DPUSHI` and `DPUSH` (R123, R124): append a byte, or raise `BufferBounds` when DMEM is full, that is
when `DLEN >= DMAX` (R3). -/
def pushByte (s : State) (v : Byte) : Effect :=
  if s.sizes.dmax ≤ s.dlen.toNat then .raise .bufferBounds else .commit (s.pushData v)

end Sys2Proof.Machine
end

