-- ==== Sys2Proof/Machine/Flags.lean ====
section
/-! DEFINITION. The three status flags (10_state.md R13, R16): the STATUS word, the FAULT_O output (60_exceptions.md R147),
and the check of `TV` that every table-using command makes first (R146). The engine has no arithmetic flags (R13). -/

namespace Sys2Proof.Machine

/-- STATUS as read (R16): bit 0 `TV`, bit 1 `FAULT`, bit 2 `LV`, bits 31 to 3 zero. -/
def State.status (s : State) : Word :=
  (BitVec.ofBool s.lv ++ BitVec.ofBool s.fault ++ BitVec.ofBool s.tv).setWidth 32

/-- The level output FAULT_O: at every moment equal to `STATUS.FAULT` (R147). -/
def State.faultOut (s : State) : Bool := s.fault

/-- `if STATUS.TV = 0: raise TablesNotReady`, else go on. -/
def needTables (s : State) (e : Effect) : Effect := if s.tv then e else .raise .tablesNotReady

end Sys2Proof.Machine
end

