-- ==== Sys2Proof/Machine/Field.lean ====
section
/-! DEFINITION. The field GF(2^8) and its two tables (40_gf_engine.md R70 to R76, R78). -/

namespace Sys2Proof.Machine

/-- The reduction polynomial x^8 + x^4 + x^3 + x^2 + 1 (R4, R6): bit `i` is the coefficient of `x^i`. -/
def reductionPoly : Nat := 0x11D

/-- Field addition, and subtraction: exclusive or (R70). -/
def gfadd (a b : Byte) : Byte := a ^^^ b

/-- Multiplication by ALPHA = 0x02 (R71, R72): shift the byte left into 9 bits and reduce when bit 8 is set. -/
def xtime (a : Byte) : Byte :=
  let t : BitVec 9 := a.setWidth 9 <<< 1
  let t := if t.getLsbD 8 then t ^^^ BitVec.ofNat 9 reductionPoly else t
  t.setWidth 8

/-- ALPHA^i (R74): ALPHA^0 = 0x01 and ALPHA^(i+1) = xtime(ALPHA^i). -/
def alphaPow : Nat → Byte
  | 0 => 0x01#8
  | i + 1 => xtime (alphaPow i)

/-- The carry-less product of R73's first loop: bits 14..0. -/
def carrylessProduct (a b : Byte) : BitVec 15 :=
  (List.range 8).foldl (fun p i => if b.getLsbD i then p ^^^ (a.setWidth 15 <<< i) else p) 0#15

/-- R73's second loop: clear bits 14..8, highest first. -/
def reduceProduct (p : BitVec 15) : BitVec 15 :=
  [14, 13, 12, 11, 10, 9, 8].foldl
    (fun p i => if p.getLsbD i then p ^^^ (BitVec.ofNat 15 reductionPoly <<< (i - 8)) else p) p

/-- The field product without tables (R73). No command uses it; the claims do (R86). -/
def fmul (a b : Byte) : Byte := (reduceProduct (carrylessProduct a b)).setWidth 8

/-- The loop of R78, from index `i` with `n` rounds to go and `x` = ALPHA^i: `EXP[i] <- x; LOG[x] <- i; x <- xtime(x)`. -/
def buildTablesFrom : Nat → Nat → Byte → Memory × Memory → Memory × Memory
  | 0, _, _, t => t
  | n + 1, i, x, (exp, log) =>
    buildTablesFrom n (i + 1) (xtime x) (Memory.write exp i x, Memory.write log x.toNat (BitVec.ofNat 8 i))

/-- The contents `GFINIT` builds (R74, R78): EXP[0..254] and LOG[1..255]. -/
def builtTables : Memory × Memory := buildTablesFrom 255 0 0x01#8 ([], [])

/-- `gfmul(a, b)` with the tables `exp` and `log` (R75): zero if an operand is zero, with no table read, else
`EXP[(LOG[a] + LOG[b]) mod 255]`. Nothing where a table entry it reads holds no value. -/
def gfmul (exp log : Memory) (a b : Byte) : Option Byte :=
  if a = 0x00#8 ∨ b = 0x00#8 then some 0x00#8
  else
    match Memory.read log a.toNat, Memory.read log b.toNat with
    | some i, some j => Memory.read exp ((i.toNat + j.toNat) % 255)
    | _, _ => none

/-- `gfdiv(a, b)` with the tables `exp` and `log`, for a divisor `b` that is not zero (R76): zero if `a` is zero, else
`EXP[(LOG[a] + 255 - LOG[b]) mod 255]`. The commands test the divisor first. -/
def gfdiv (exp log : Memory) (a b : Byte) : Option Byte :=
  if a = 0x00#8 then some 0x00#8
  else
    match Memory.read log a.toNat, Memory.read log b.toNat with
    | some i, some j => Memory.read exp ((i.toNat + 255 - j.toNat) % 255)
    | _, _ => none

end Sys2Proof.Machine
end

