-- ==== Sys2Proof/Machine/GfEngine.lean ====
section
/-! DEFINITION. The Galois-field engine's commands (40_gf_engine.md R78 to R85). -/

namespace Sys2Proof.Machine

/-- `GFINIT` (R78): build both tables when `TV = 0`, change nothing when `TV = 1`. -/
def execGfinit (s : State) : Host.Outcome State Fault Refusal :=
  runCommand (encode .gfinit) s
    (.commit (if s.tv then s else s.setTables builtTables.1 builtTables.2))

/-- `GFFIN` (R79): tear both tables down; if `TV = 0` already, nothing changes. -/
def execGffin (s : State) : Host.Outcome State Fault Refusal :=
  runCommand (encode .gffin) s (.commit (if s.tv then s.dropTables else s))

/-- `LI rd, imm8` (R80): `g[rd] <- imm8`. -/
def execLi (rd : Reg) (imm8 : Byte) (s : State) : Host.Outcome State Fault Refusal :=
  runCommand (encode (.li rd imm8)) s (.commit (s.setReg rd imm8))

/-- `GFADD rd, ra, rb` (R81): `g[rd] <- g[ra] xor g[rb]`; it needs no table. -/
def execGfadd (rd ra rb : Reg) (s : State) : Host.Outcome State Fault Refusal :=
  runCommand (encode (.gfadd rd ra rb)) s (.commit (s.setReg rd (gfadd (s.reg ra) (s.reg rb))))

/-- `GFMUL rd, ra, rb` (R82): `TablesNotReady` when `TV = 0`, also for a zero operand; else
`g[rd] <- gfmul(g[ra], g[rb])`. -/
def execGfmul (rd ra rb : Reg) (s : State) : Host.Outcome State Fault Refusal :=
  runCommand (encode (.gfmul rd ra rb)) s <|
    needTables s <|
    Effect.withValue (gfmul s.exp s.log (s.reg ra) (s.reg rb)) fun v => .commit (s.setReg rd v)

/-- `GFDIV rd, ra, rb` (R83): `TablesNotReady` when `TV = 0`; `FieldArithmeticError` when the divisor `g[rb]` is zero,
whatever the dividend; else `g[rd] <- gfdiv(g[ra], g[rb])`. -/
def execGfdiv (rd ra rb : Reg) (s : State) : Host.Outcome State Fault Refusal :=
  runCommand (encode (.gfdiv rd ra rb)) s <|
    needTables s <|
    if s.reg rb = 0x00#8 then .raise .fieldArithmeticError
    else Effect.withValue (gfdiv s.exp s.log (s.reg ra) (s.reg rb)) fun v => .commit (s.setReg rd v)

/-- `GFEXP rd, ra` (R84): `TablesNotReady` when `TV = 0`; else `g[rd] <- EXP[g[ra] mod 255]`. -/
def execGfexp (rd ra : Reg) (s : State) : Host.Outcome State Fault Refusal :=
  runCommand (encode (.gfexp rd ra)) s <|
    needTables s <|
    Effect.withValue (s.readByte .exp ((s.reg ra).toNat % 255)) fun v => .commit (s.setReg rd v)

/-- `GFLOG rd, ra` (R85): `TablesNotReady` when `TV = 0`; `FieldArithmeticError` when `g[ra]` is zero; else
`g[rd] <- LOG[g[ra]]`. -/
def execGflog (rd ra : Reg) (s : State) : Host.Outcome State Fault Refusal :=
  runCommand (encode (.gflog rd ra)) s <|
    needTables s <|
    if s.reg ra = 0x00#8 then .raise .fieldArithmeticError
    else Effect.withValue (s.readByte .log (s.reg ra).toNat) fun v => .commit (s.setReg rd v)

end Sys2Proof.Machine
end

