-- ==== Sys2Proof/Machine/ReedSolomon.lean ====
section
/-! DEFINITION. The Reed-Solomon encoder (41_rs_encoder.md R90 to R94). A data block and its EC bytes are highest degree
first, a generator lowest degree first (R90). Products and roots are read from the tables; nothing results where an entry
read holds no value. -/

namespace Sys2Proof.Machine

/-- One round of R91's loop: from `gen` to `gen * (x + root)`, that is `new[j] = gen[j-1] xor gfmul(gen[j], root)`. -/
def generatorRound (exp log : Memory) (gen : List Byte) (root : Byte) : Option (List Byte) :=
  match gen.mapM fun c => gfmul exp log c root with
  | some products => some (List.zipWith gfadd (0x00#8 :: gen) (products ++ [0x00#8]))
  | none => none

/-- `generator(r)` (R91): the product of `(x + ALPHA^i)` for `i` in 0 .. r-1, lowest degree first. -/
def generator (exp log : Memory) (r : Nat) : Option (List Byte) :=
  (List.range r).foldlM
    (fun gen i =>
      match Memory.read exp (i % 255) with
      | some root => generatorRound exp log gen root
      | none => none)
    [0x01#8]

/-- One round of R92's division, for the data byte `d`: `f = d xor rem[0]`, shift towards index 0, and
`rem[j] = rem[j] xor gfmul(f, gen[r-1-j])`. -/
def remainderRound (exp log : Memory) (gen rem : List Byte) (d : Byte) : Option (List Byte) :=
  let f := gfadd d (rem.headD 0x00#8)
  match gen.dropLast.reverse.mapM fun c => gfmul exp log f c with
  | some products => some (List.zipWith gfadd (rem.drop 1 ++ [0x00#8]) products)
  | none => none

/-- `remainder(d, gen)` (R92): the EC bytes of the data block `d`, highest degree first. -/
def remainder (exp log : Memory) (d gen : List Byte) : Option (List Byte) :=
  d.foldlM (remainderRound exp log gen) (List.replicate (gen.length - 1) 0x00#8)

/-- The checks of the count `r` (R93, R94, in this order): `FieldArithmeticError` when `r <= 0`, `BufferBounds` when
`r > RMAX` (R3); else go on with `r`. -/
def withCount (s : State) (imm16 : BitVec 16) (k : Nat → Effect) : Effect :=
  if signedCount imm16 ≤ 0 then .raise .fieldArithmeticError
  else if (s.sizes.rmax : Int) < signedCount imm16 then .raise .bufferBounds
  else k (signedCount imm16).toNat

/-- `RSGEN imm16` (R93). -/
def execRsgen (imm16 : BitVec 16) (s : State) : Host.Outcome State Fault Refusal :=
  runCommand (encode (.rsgen imm16)) s <|
    needTables s <|
    withCount s imm16 fun r =>
      Effect.withValue (generator s.exp s.log r) fun gen => .commit (s.setGenerator gen r)

/-- `RSENC imm16` (R94): the data block is the whole of `DMEM[0 .. DLEN-1]`. -/
def execRsenc (imm16 : BitVec 16) (s : State) : Host.Outcome State Fault Refusal :=
  runCommand (encode (.rsenc imm16)) s <|
    needTables s <|
    withCount s imm16 fun r =>
      Effect.withValue (generator s.exp s.log r) fun gen =>
        Effect.withValue (Memory.slice s.dmem 0 s.dlen.toNat) fun d =>
          Effect.withValue (remainder s.exp s.log d gen) fun ec =>
            .commit ((s.setGenerator gen r).setEc ec r)

end Sys2Proof.Machine
end

