-- ==== Sys2Proof/Machine/Interleaver.lean ====
section
/-! DEFINITION. The block interleaver and codeword sequencer (42_interleaver_sequencer.md R100 to R109). -/

namespace Sys2Proof.Machine

/-- The layout values of R101 and R102. -/
structure Layout where
  /-- `group1_blocks`. -/
  g1b : Nat
  /-- `group2_blocks`. -/
  g2b : Nat
  /-- `group1_total`. -/
  g1t : Nat
  /-- `group2_total`. -/
  g2t : Nat
  /-- `group1_data`. -/
  g1d : Nat
  /-- `group2_data`. -/
  g2d : Nat
  /-- EC bytes per block. -/
  ecb : Nat
  deriving DecidableEq, Repr

/-- R101 and R102: the layout of `T`, `D`, `N`, or `ConfigError` when `N = 0` or the EC size per block, a signed
difference, is not positive. -/
def layoutOf (t d n : Nat) : Except Cause Layout :=
  if n = 0 then .error .configError
  else
    let g2b := t % n
    let g1t := t / n
    let g1d := d / n
    let ecb : Int := (g1t : Int) - (g1d : Int)
    if ecb ≤ 0 then .error .configError
    else
      .ok { g1b := n - g2b, g2b := g2b, g1t := g1t, g2t := g1t + 1, g1d := g1d, g2d := g1d + 1, ecb := ecb.toNat }

/-- The layout of the present configuration (R100). -/
def State.layout (s : State) : Except Cause Layout := layoutOf s.cfgT.toNat s.cfgD.toNat s.cfgN.toNat

/-- R107, R108: the seven layout registers, and `STATUS.LV <- 1`. -/
def State.setLayout (s : State) (l : Layout) : State :=
  { s with
    g1b := BitVec.ofNat 17 l.g1b, g2b := BitVec.ofNat 17 l.g2b,
    g1t := BitVec.ofNat 17 l.g1t, g2t := BitVec.ofNat 17 l.g2t,
    g1d := BitVec.ofNat 17 l.g1d, g2d := BitVec.ofNat 17 l.g2d,
    ecb := BitVec.ofNat 17 l.ecb, lv := true }

/-- `len(b)`: the data size of block `b` (R101). -/
def Layout.len (l : Layout) (b : Nat) : Nat := if b < l.g1b then l.g1d else l.g2d

/-- `off(b)`: where block `b`'s slice starts, R103's closed form. -/
def Layout.off (l : Layout) (b : Nat) : Nat :=
  if b ≤ l.g1b then b * l.g1d else l.g1b * l.g1d + (b - l.g1b) * l.g2d

/-- The bytes all slices together cover (R103). -/
def Layout.covered (l : Layout) : Nat := l.g1b * l.g1d + l.g2b * l.g2d

/-- The longest data slice (R105). -/
def Layout.maxData (l : Layout) : Nat := if l.g2b > 0 then l.g2d else l.g1d

/-- R103: the data slices of blocks 0 to `n - 1`, in block order. -/
def dataSlices (dmem : Memory) (n : Nat) (l : Layout) : Option (List (List Byte)) :=
  (List.range n).mapM fun b => Memory.slice dmem (l.off b) (l.len b)

/-- One column of a pass of R105: byte `x` of every block that has one, in ascending block number. -/
def column (blocks : List (List Byte)) (x : Nat) : List Byte := blocks.filterMap fun b => b[x]?

/-- R105: the data pass over `maxd` columns, then the EC pass over `ecb` columns. -/
def interleave (slices ecs : List (List Byte)) (maxd ecb : Nat) : List Byte :=
  (List.range maxd).flatMap (column slices) ++ (List.range ecb).flatMap (column ecs)

/-- What `ILV` computes before it commits (R108): the generator, the EC bytes of all blocks, and the codeword sequence. -/
structure Interleaved where
  gen : List Byte
  ec : List Byte
  out : List Byte
  deriving DecidableEq, Repr

/-- R104 and R105: encode every block with the one generator and interleave. EC bytes are block-major. -/
def encodeBlocks (exp log dmem : Memory) (n : Nat) (l : Layout) : Option Interleaved :=
  match generator exp log l.ecb, dataSlices dmem n l with
  | some gen, some slices =>
    match slices.mapM fun d => remainder exp log d gen with
    | some ecs => some { gen := gen, ec := ecs.flatten, out := interleave slices ecs l.maxData l.ecb }
    | none => none
  | _, _ => none

/-- The body of `ILV` (R108), checks in its order, writes all at the end. -/
def ilvEffect (s : State) : Effect :=
  let t := s.cfgT.toNat
  let d := s.cfgD.toNat
  let n := s.cfgN.toNat
  needTables s <|
    match s.layout with
    | .error c => .raise c
    | .ok l =>
      if t > s.sizes.omax ∨ n * l.ecb > s.sizes.emax ∨ l.ecb > s.sizes.rmax then .raise .bufferBounds
      else if s.dlen.toNat ≠ d ∨ l.covered ≠ d then .raise .malformedBitStream
      else
        Effect.withValue (encodeBlocks s.exp s.log s.dmem n l) fun r =>
          if r.out.length ≠ t then .raise .malformedBitStream
          else .commit ((((s.setLayout l).setGenerator r.gen l.ecb).setEc r.ec (n * l.ecb)).setOutput r.out t)

/-- `ILAYOUT` (R107): the layout registers from the configuration, and nothing else. -/
def execIlayout (s : State) : Host.Outcome State Fault Refusal :=
  runCommand (encode .ilayout) s <|
    match s.layout with
    | .error c => .raise c
    | .ok l => .commit (s.setLayout l)

/-- `ILV` (R108). -/
def execIlv (s : State) : Host.Outcome State Fault Refusal :=
  runCommand (encode .ilv) s (ilvEffect s)

/-- `ONEXT rd` (R109): hand out `OMEM[OPTR]` and advance `OPTR`; `BufferBounds` when `OPTR >= OLEN`. -/
def execOnext (rd : Reg) (s : State) : Host.Outcome State Fault Refusal :=
  runCommand (encode (.onext rd)) s <|
    if s.olen ≤ s.optr then .raise .bufferBounds
    else Effect.withValue (s.readByte .omem s.optr.toNat) fun v => .commit ((s.setReg rd v).advanceOptr)

end Sys2Proof.Machine
end

