-- ==== Sys2Proof/Machine/BufferControl.lean ====
section
/-! DEFINITION. Buffer access and control commands (43_buffer_and_control.md R120 to R128). -/

namespace Sys2Proof.Machine

/-- `NOP` (R120): nothing but the completion. -/
def execNop (s : State) : Host.Outcome State Fault Refusal :=
  runCommand (encode .nop) s (.commit s)

/-- `BEGIN` (R121): the only command that is executed while a fault is latched (R145); it has no checks. -/
def execBeginEncode (s : State) : Host.Outcome State Fault Refusal := .next s.startEncode.complete

/-- `CSRW CFG_T, imm16` (R122). -/
def execCsrwT (imm16 : BitVec 16) (s : State) : Host.Outcome State Fault Refusal :=
  runCommand (encode (.csrwT imm16)) s (.commit (s.setCfgT imm16))

/-- `CSRW CFG_D, imm16` (R122). -/
def execCsrwD (imm16 : BitVec 16) (s : State) : Host.Outcome State Fault Refusal :=
  runCommand (encode (.csrwD imm16)) s (.commit (s.setCfgD imm16))

/-- `CSRW CFG_N, imm16` (R122). -/
def execCsrwN (imm16 : BitVec 16) (s : State) : Host.Outcome State Fault Refusal :=
  runCommand (encode (.csrwN imm16)) s (.commit (s.setCfgN imm16))

/-- `DPUSHI imm8` (R123). -/
def execDpushi (imm8 : Byte) (s : State) : Host.Outcome State Fault Refusal :=
  runCommand (encode (.dpushi imm8)) s (pushByte s imm8)

/-- `DPUSH rs` (R124). -/
def execDpush (rs : Reg) (s : State) : Host.Outcome State Fault Refusal :=
  runCommand (encode (.dpush rs)) s (pushByte s (s.reg rs))

/-- `LDD rd, addr16` (R125). -/
def execLdd (rd : Reg) (addr16 : BitVec 16) (s : State) : Host.Outcome State Fault Refusal :=
  runCommand (encode (.ldd rd addr16)) s (loadByte s .dmem rd addr16)

/-- `LDE rd, addr16` (R126). -/
def execLde (rd : Reg) (addr16 : BitVec 16) (s : State) : Host.Outcome State Fault Refusal :=
  runCommand (encode (.lde rd addr16)) s (loadByte s .emem rd addr16)

/-- `LDO rd, addr16` (R127). -/
def execLdo (rd : Reg) (addr16 : BitVec 16) (s : State) : Host.Outcome State Fault Refusal :=
  runCommand (encode (.ldo rd addr16)) s (loadByte s .omem rd addr16)

/-- `LDG rd, addr16` (R128). -/
def execLdg (rd : Reg) (addr16 : BitVec 16) (s : State) : Host.Outcome State Fault Refusal :=
  runCommand (encode (.ldg rd addr16)) s (loadByte s .gen rd addr16)

end Sys2Proof.Machine
end

