-- ==== Sys2Proof/Machine/Dispatch.lean ====
section
/-! DEFINITION. One arm per command: each calls its own meaning. -/

namespace Sys2Proof.Machine

def exec (i : Instr) (s : State) : Host.Outcome State Fault Refusal :=
  match i with
  | .nop => Sys2Proof.Machine.execNop s
  | .beginEncode => Sys2Proof.Machine.execBeginEncode s
  | .gfinit => Sys2Proof.Machine.execGfinit s
  | .gffin => Sys2Proof.Machine.execGffin s
  | .csrwT imm16 => Sys2Proof.Machine.execCsrwT imm16 s
  | .csrwD imm16 => Sys2Proof.Machine.execCsrwD imm16 s
  | .csrwN imm16 => Sys2Proof.Machine.execCsrwN imm16 s
  | .li rd imm8 => Sys2Proof.Machine.execLi rd imm8 s
  | .gfadd rd ra rb => Sys2Proof.Machine.execGfadd rd ra rb s
  | .gfmul rd ra rb => Sys2Proof.Machine.execGfmul rd ra rb s
  | .gfdiv rd ra rb => Sys2Proof.Machine.execGfdiv rd ra rb s
  | .gfexp rd ra => Sys2Proof.Machine.execGfexp rd ra s
  | .gflog rd ra => Sys2Proof.Machine.execGflog rd ra s
  | .dpushi imm8 => Sys2Proof.Machine.execDpushi imm8 s
  | .dpush rs => Sys2Proof.Machine.execDpush rs s
  | .ldd rd addr16 => Sys2Proof.Machine.execLdd rd addr16 s
  | .lde rd addr16 => Sys2Proof.Machine.execLde rd addr16 s
  | .ldo rd addr16 => Sys2Proof.Machine.execLdo rd addr16 s
  | .ldg rd addr16 => Sys2Proof.Machine.execLdg rd addr16 s
  | .rsgen imm16 => Sys2Proof.Machine.execRsgen imm16 s
  | .rsenc imm16 => Sys2Proof.Machine.execRsenc imm16 s
  | .ilayout => Sys2Proof.Machine.execIlayout s
  | .ilv => Sys2Proof.Machine.execIlv s
  | .onext rd => Sys2Proof.Machine.execOnext rd s

end Sys2Proof.Machine
end

