-- ==== Sys2Proof/Machine/Issue.lean ====
section
/-! DEFINITION. The command issue procedure (60_exceptions.md R154), what each host input does (70_reset_and_hazards.md
R170, R175, R177), and host reads (R176). -/

namespace Sys2Proof.Machine

/-- The one word that is executed while a fault is latched (R144): `BEGIN`. -/
def beginWord : Word := 0x01000000#32

/-- `Issue(w)` (R154). A word issued while a fault is latched is discarded without being decoded, unless it is `BEGIN`;
an illegal word takes the fault entry with `IllegalCommand`. -/
def issue (w : Word) (s : State) : Host.Outcome State Fault Refusal :=
  if s.fault then
    if w = beginWord then exec .beginEncode s else .next s
  else
    match decode w with
    | .error _ => .next (s.enterFault .illegalCommand w)
    | .ok i => exec i s

/-- Reset (R170): every location at its reset value (R23). The engine keeps its sizes, and what the host will do afterwards
stays (assumption log entries 3 and 1). -/
def State.resetEngine (s : State) : State := { State.resetOf s.sizes with input := s.input }

/-- The host's next input, if any: with none the engine is idle and keeps all state (R153). -/
def takeInput (s : State) : Host.Outcome State Fault Refusal :=
  match s.input with
  | [] => .next s
  | .reset :: rest => .next (State.resetEngine { s with input := rest })
  | .command w :: rest => issue w { s with input := rest }

/-- The host about to issue the word `w` next (R177), before whatever it was going to do. -/
def State.presentWord (s : State) (w : Word) : State := { s with input := .command w :: s.input }

/-! ### Host reads -/

/-- A CSR as a host read sees it (R14): 32 bits, the field in the low bits, zero above it. Nothing for a number that does
not exist. -/
def State.csr (s : State) : Nat → Option Word
  | 0x00 => some (s.cfgT.setWidth 32)
  | 0x01 => some (s.cfgD.setWidth 32)
  | 0x02 => some (s.cfgN.setWidth 32)
  | 0x03 => some s.status
  | 0x04 => some (s.cause.setWidth 32)
  | 0x05 => some s.fcmd
  | 0x06 => some s.fseq
  | 0x07 => some s.cseq
  | 0x08 => some (s.dlen.setWidth 32)
  | 0x09 => some (s.elen.setWidth 32)
  | 0x0A => some (s.olen.setWidth 32)
  | 0x0B => some (s.optr.setWidth 32)
  | 0x0C => some (s.gdeg.setWidth 32)
  | 0x10 => some (s.g1b.setWidth 32)
  | 0x11 => some (s.g2b.setWidth 32)
  | 0x12 => some (s.g1t.setWidth 32)
  | 0x13 => some (s.g2t.setWidth 32)
  | 0x14 => some (s.g1d.setWidth 32)
  | 0x15 => some (s.g2d.setWidth 32)
  | 0x16 => some (s.ecb.setWidth 32)
  | _ => none

/-- A location the host can name in a read (R176). -/
inductive Location where
  /-- A GF register by number. -/
  | reg (n : Nat)
  /-- A CSR by number. -/
  | csr (n : Nat)
  /-- A table entry or a buffer byte by space and index. -/
  | byte (sp : Space) (i : Nat)
  deriving DecidableEq, Repr

/-- A host read (R176): the value, or nothing for a location that holds no value or does not exist. It is a function of
the state, so it has no side effect (DESIGN CHOICE, assumption log entry 6, safe). -/
def State.hostRead (s : State) : Location → Option Word
  | .reg n => (s.g[n]?).map fun v => v.setWidth 32
  | .csr n => s.csr n
  | .byte sp i => if s.validIndex sp i then (s.readByte sp i).map fun v => v.setWidth 32 else none

end Sys2Proof.Machine
end

