-- ==== Sys2Proof/Machine/Step.lean ====
section
/-! DEFINITION. One step of the machine, and the host's placement of a word that the next step runs. -/

namespace Sys2Proof.Machine

/-- One step: the engine takes the host's next input, if any (70_reset_and_hazards.md R170, R177; 60_exceptions.md R153). -/
def step (s : State) : Host.Outcome State Fault Refusal := takeInput s

/-- `s` with the instruction of bits `w` (`nbits` of them, zero above) as the word the host issues next (R177; assumption
log entry 1). -/
def State.withFetchWord (s : State) (nbits w : Nat) : State := s.presentWord (BitVec.ofNat 32 (w % 2 ^ nbits))

end Sys2Proof.Machine
end

