-- ==== Sys2Proof/Machine/Assembler.lean ====
section
/-! DEFINITION. The assembler syntax and the pseudo-instructions (30_encoding.md R60, R61). Text the rules do not allow is
refused as a whole (assumption log entry 4). -/

namespace Sys2Proof.Machine

/-- The pseudo-instructions of R61. -/
inductive Pseudo where
  /-- `SETT v`. -/
  | sett (v : BitVec 16)
  /-- `SETD v`. -/
  | setd (v : BitVec 16)
  /-- `SETN v`. -/
  | setn (v : BitVec 16)
  /-- `GFSUB rd, ra, rb`. -/
  | gfsub (rd ra rb : Reg)
  /-- `DATA b0, b1, ..., bn`. -/
  | data (bytes : List Byte)
  deriving DecidableEq, Repr

/-- The commands a pseudo-instruction stands for (R61). -/
def Pseudo.expand : Pseudo → List Instr
  | .sett v => [.csrwT v]
  | .setd v => [.csrwD v]
  | .setn v => [.csrwN v]
  | .gfsub rd ra rb => [.gfadd rd ra rb]
  | .data bytes => bytes.map .dpushi

/-- The pieces of a text between the separators. -/
def splitAtChar (sep : Char) : List Char → List (List Char)
  | [] => [[]]
  | c :: cs =>
    match splitAtChar sep cs with
    | [] => [[c]]
    | l :: ls => if c = sep then [] :: l :: ls else (c :: l) :: ls

/-- A space, a tab or a carriage return. -/
def blankChar (c : Char) : Bool := c == ' ' || c == '\t' || c == '\r'

/-- A text without the blanks at its two ends. -/
def trimBlanks (cs : List Char) : List Char :=
  ((cs.dropWhile blankChar).reverse.dropWhile blankChar).reverse

/-- A digit of a numeral in the base 10 or 16. -/
def digitValue (base : Nat) (c : Char) : Option Nat :=
  let n := c.toNat
  let v :=
    if 48 ≤ n ∧ n ≤ 57 then n - 48
    else if 65 ≤ n ∧ n ≤ 70 then n - 55
    else if 97 ≤ n ∧ n ≤ 102 then n - 87
    else base
  if v < base then some v else none

/-- The value of a string of digits; there must be one. -/
def digitsValue (base : Nat) : List Char → Option Nat
  | [] => none
  | cs => cs.foldlM (fun n c => (digitValue base c).map (base * n + ·)) 0

/-- A decimal numeral or a `0x` hexadecimal numeral (R60). -/
def numeral : List Char → Option Nat
  | '0' :: 'x' :: cs => digitsValue 16 cs
  | cs => digitsValue 10 cs

/-- An unsigned immediate of `n` bits (R54, R60). -/
def immediate (n : Nat) (cs : List Char) : Option (BitVec n) :=
  (numeral cs).bind fun v => if v < 2 ^ n then some (BitVec.ofNat n v) else none

/-- The count of `RSGEN` and `RSENC`: a leading minus sign is allowed, and the value is encoded in two's complement in 16
bits (R60). -/
def countOperand : List Char → Option (BitVec 16)
  | '-' :: cs => (numeral cs).bind fun v => if v ≤ 32768 then some (BitVec.ofInt 16 (-(v : Int))) else none
  | cs => immediate 16 cs

/-- A register `g0` to `g7` (R60). -/
def registerOperand : List Char → Option Reg
  | ['g', c] => (digitValue 10 c).bind fun v => if v < 8 then some (BitVec.ofNat 3 v) else none
  | _ => none

/-- `CSRW`: its register by name or by number (R60). -/
def csrwTo (csr : List Char) (imm16 : BitVec 16) : Option Instr :=
  if csr = ['C', 'F', 'G', '_', 'T'] then some (.csrwT imm16)
  else if csr = ['C', 'F', 'G', '_', 'D'] then some (.csrwD imm16)
  else if csr = ['C', 'F', 'G', '_', 'N'] then some (.csrwN imm16)
  else
    match numeral csr with
    | some 0 => some (.csrwT imm16)
    | some 1 => some (.csrwD imm16)
    | some 2 => some (.csrwN imm16)
    | _ => none

/-- One register operand and one immediate of `n` bits. -/
def regImm {n : Nat} (mk : Reg → BitVec n → Instr) : List (List Char) → Option (List Instr)
  | [r, v] => do some [mk (← registerOperand r) (← immediate n v)]
  | _ => none

/-- Three register operands. -/
def threeRegs (mk : Reg → Reg → Reg → Instr) : List (List Char) → Option (List Instr)
  | [a, b, c] => do some [mk (← registerOperand a) (← registerOperand b) (← registerOperand c)]
  | _ => none

/-- Two register operands. -/
def twoRegs (mk : Reg → Reg → Instr) : List (List Char) → Option (List Instr)
  | [a, b] => do some [mk (← registerOperand a) (← registerOperand b)]
  | _ => none

/-- One register operand. -/
def oneReg (mk : Reg → Instr) : List (List Char) → Option (List Instr)
  | [a] => do some [mk (← registerOperand a)]
  | _ => none

/-- One immediate of `n` bits. -/
def oneImm {n : Nat} (mk : BitVec n → Instr) : List (List Char) → Option (List Instr)
  | [v] => do some [mk (← immediate n v)]
  | _ => none

/-- One count. -/
def oneCount (mk : BitVec 16 → Instr) : List (List Char) → Option (List Instr)
  | [v] => do some [mk (← countOperand v)]
  | _ => none

/-- No operand. -/
def noOperand (i : Instr) : List (List Char) → Option (List Instr)
  | [] => some [i]
  | _ => none

/-- What a mnemonic makes of its operands (R55, R60, R61). -/
def assembleOperands (mnemonic : String) (ops : List (List Char)) : Option (List Instr) :=
  match mnemonic with
  | "NOP" => noOperand .nop ops
  | "BEGIN" => noOperand .beginEncode ops
  | "GFINIT" => noOperand .gfinit ops
  | "GFFIN" => noOperand .gffin ops
  | "CSRW" =>
    match ops with
    | [c, v] => do some [← csrwTo c (← immediate 16 v)]
    | _ => none
  | "LI" => regImm .li ops
  | "GFADD" => threeRegs .gfadd ops
  | "GFMUL" => threeRegs .gfmul ops
  | "GFDIV" => threeRegs .gfdiv ops
  | "GFEXP" => twoRegs .gfexp ops
  | "GFLOG" => twoRegs .gflog ops
  | "DPUSHI" => oneImm .dpushi ops
  | "DPUSH" => oneReg .dpush ops
  | "LDD" => regImm .ldd ops
  | "LDE" => regImm .lde ops
  | "LDO" => regImm .ldo ops
  | "LDG" => regImm .ldg ops
  | "RSGEN" => oneCount .rsgen ops
  | "RSENC" => oneCount .rsenc ops
  | "ILAYOUT" => noOperand .ilayout ops
  | "ILV" => noOperand .ilv ops
  | "ONEXT" => oneReg .onext ops
  | "SETT" => oneImm .csrwT ops
  | "SETD" => oneImm .csrwD ops
  | "SETN" => oneImm .csrwN ops
  | "GFSUB" => threeRegs .gfadd ops
  | "DATA" => do
    let bytes ← ops.mapM (immediate 8)
    if bytes = [] then none else some (Pseudo.expand (.data bytes))
  | _ => none

/-- One line (R60): a semicolon starts a comment; a line with nothing else holds no command; otherwise a mnemonic, then its
operands separated by commas. -/
def assembleLine (line : List Char) : Option (List Instr) :=
  let text := trimBlanks (line.takeWhile (· ≠ ';'))
  if text = [] then some []
  else
    let mnemonic := text.takeWhile fun c => !blankChar c
    let rest := trimBlanks (text.drop mnemonic.length)
    let ops := if rest = [] then [] else (splitAtChar ',' rest).map trimBlanks
    assembleOperands (String.ofList mnemonic) ops

/-- The commands of an assembler text (R60), one command per line, in order. -/
def assemble (text : String) : Option (List Instr) :=
  ((splitAtChar '\n' text.toList).mapM assembleLine).map List.flatten

/-- The command words of an assembler text. -/
def assembleWords (text : String) : Option (List Word) := (assemble text).map (·.map encode)

end Sys2Proof.Machine
end

