-- ==== Sys2Proof/Machine/Reference.lean ====
section
/-! DEFINITION. Table-free reference mathematics for the claims: polynomials over GF(2^8) with the product `fmul`
(40_gf_engine.md R73), the generator as a product of roots (41_rs_encoder.md R91), division with remainder (R92) and
evaluation (R95). No command uses this file. -/

namespace Sys2Proof.Machine

/-- The sum of two polynomials, lowest degree first; the shorter one is padded with zeros. -/
def polyAdd : List Byte → List Byte → List Byte
  | [], q => q
  | p, [] => p
  | a :: p, b :: q => gfadd a b :: polyAdd p q

/-- The product of two polynomials, lowest degree first. -/
def polyMul : List Byte → List Byte → List Byte
  | [], _ => []
  | a :: p, q => polyAdd (q.map (fmul a)) (0x00#8 :: polyMul p q)

/-- `g_r(x)` (R91): the product of `(x + ALPHA^i)` for `i` = 0, …, r-1, lowest degree first. -/
def refGenerator : Nat → List Byte
  | 0 => [0x01#8]
  | r + 1 => polyMul (refGenerator r) [alphaPow r, 0x01#8]

/-- `e` lists, highest degree first, the `r` coefficients of the remainder of `d(x) * x^r` divided by `g_r(x)`, for a data
block `d` listed highest degree first (R90 (a), (b), R92): `d(x) * x^r = q(x) * g_r(x) + e(x)` for some quotient `q`. -/
def IsRemainder (d e : List Byte) (r : Nat) : Prop :=
  e.length = r ∧
  ∃ q : List Byte, q.length = d.length ∧
    polyAdd (polyMul q (refGenerator r)) e.reverse = List.replicate r 0x00#8 ++ d.reverse

/-- `c(x)` at a point, for coefficients listed highest degree first, by Horner's rule (R95). -/
def horner (c : List Byte) (x : Byte) : Byte := c.foldl (fun s b => gfadd (fmul s x) b) 0x00#8

end Sys2Proof.Machine
end

