-- ==== Sys2Proof/Safety.lean ====
section
/-! DEFINITION. What counts as a good state and a good run, in the terms the claims use: the invariants of 10_state.md R25,
the tables as R74 states them, and a run that succeeded (70_reset_and_hazards.md R183). -/

namespace Sys2Proof.Machine

/-- The space holds a value at the indices 0 to `n - 1` and nowhere else (R8, R19). -/
abbrev Memory.holdsFirst (m : Memory) (n : Nat) : Prop := m.map Prod.fst = List.range n

/-- The tables as R74 states them, entry by entry, with `TV = 1`. -/
abbrev State.TablesBuilt (s : State) : Prop :=
  s.tv = true ∧
  ∀ i, i < 255 →
    s.readByte .exp i = some (alphaPow i) ∧ s.readByte .log (alphaPow i).toNat = some (BitVec.ofNat 8 i)

/-- The seven layout registers hold the layout `l` (R20). -/
abbrev State.HoldsLayout (s : State) (l : Layout) : Prop :=
  s.g1b.toNat = l.g1b ∧ s.g2b.toNat = l.g2b ∧ s.g1t.toNat = l.g1t ∧ s.g2t.toNat = l.g2t ∧
  s.g1d.toNat = l.g1d ∧ s.g2d.toNat = l.g2d ∧ s.ecb.toNat = l.ecb

/-- The invariants of R25, with what R17 to R20 say of the same locations. -/
structure State.Inv (s : State) : Prop where
  /-- R3's constraints on the sizes. -/
  sizes : s.sizes.legal = true
  /-- R25.1, R17, R18: no fault record without a fault. -/
  noRecord : s.fault = false → s.cause = 0 ∧ s.fcmd = 0 ∧ s.fseq = 0
  /-- R25.1: the cause of a latched fault is 3, 4, 6, 7, 8 or 9. -/
  cause : s.fault = true → s.cause ∈ [3#4, 4#4, 6#4, 7#4, 8#4, 9#4]
  /-- R18, R144: nothing completes while a fault is latched. -/
  seq : s.fault = true → s.fseq = s.cseq
  /-- R25.2. -/
  dlen : s.dlen.toNat ≤ s.sizes.dmax
  /-- R25.2. -/
  elen : s.elen.toNat ≤ s.sizes.emax
  /-- R25.2. -/
  olen : s.olen.toNat ≤ s.sizes.omax
  /-- R25.2. -/
  optr : s.optr.toNat ≤ s.olen.toNat
  /-- R25.2. -/
  gdeg : s.gdeg.toNat ≤ s.sizes.rmax
  /-- R19: exactly the bytes below `DLEN` hold a value. -/
  dmem : Memory.holdsFirst s.dmem s.dlen.toNat
  /-- R19: exactly the bytes below `ELEN` hold a value. -/
  emem : Memory.holdsFirst s.emem s.elen.toNat
  /-- R19: exactly the bytes below `OLEN` hold a value. -/
  omem : Memory.holdsFirst s.omem s.olen.toNat
  /-- R25.4: GEN holds the generator polynomial of degree `GDEG`, or nothing. -/
  gen : s.gen = if s.gdeg = 0 then [] else Memory.fill (refGenerator s.gdeg.toNat)
  /-- R25.3, R74: with `TV = 1` the tables hold what `GFINIT` builds. -/
  tables : s.tv = true → s.exp = builtTables.1 ∧ s.log = builtTables.2
  /-- R31, R32, R79: with `TV = 0` they hold no value. -/
  noTables : s.tv = false → s.exp = [] ∧ s.log = []
  /-- R13, R20: with `LV = 1` the layout registers were computed from the present configuration. -/
  layout : s.lv = true → ∃ l, s.layout = .ok l ∧ s.HoldsLayout l

/-- Every space is in canonical form. -/
def State.Canonical (s : State) : Prop := ∀ sp, Memory.wf (s.space sp) = true

/-- A run that ended in `s` succeeded (R183). -/
def State.Succeeded (s : State) : Prop := s.fault = false

end Sys2Proof.Machine
end

