-- ==== Sys2Proof/Certificates/Slice0/Obligations.lean ====
section
/-! DEFINITION. The statements about the engine, from the numbered rules of spec/. The vocabulary they share stands first. -/

open Sys2Proof Sys2Proof.Machine

namespace Sys2Proof.Claims

/-- The state after the fault entry of the word `w` with cause code `code` (R143): the fault record, nothing else. -/
def faulted (s : State) (code : BitVec 4) (w : Word) : State :=
  { s with fault := true, cause := code, fcmd := w, fseq := s.cseq }

/-- `w` is the one and only word that decodes to `i`. -/
def OnlyWord (i : Instr) (w : Word) : Prop := ∀ w' : Word, decode w' = .ok i ↔ w' = w

/-- The DMEM bytes below `DLEN`, in order, are `d` (R33, R94). -/
def HoldsData (s : State) (d : List Byte) : Prop :=
  d.length = s.dlen.toNat ∧ ∀ x, x < d.length → s.readByte .dmem x = d[x]?

/-- `a` times ALPHA^i, by `i` multiplications by ALPHA (R72). -/
def timesAlphaPow (a : Byte) : Nat → Byte
  | 0 => a
  | i + 1 => xtime (timesAlphaPow a i)

/-- The register a command may write (R11). -/
def destination : Instr → Option Reg
  | .li rd _ | .gfadd rd _ _ | .gfmul rd _ _ | .gfdiv rd _ _ | .gfexp rd _ | .gflog rd _
  | .ldd rd _ | .lde rd _ | .ldo rd _ | .ldg rd _ | .onext rd => some rd
  | _ => none

/-- The cause codes a command can raise once it is decoded, the table of R142. -/
def causesOf : Instr → List (BitVec 4)
  | .nop | .beginEncode | .gfinit | .gffin | .csrwT _ | .csrwD _ | .csrwN _ | .li _ _ | .gfadd _ _ _ => []
  | .gfmul _ _ _ | .gfexp _ _ => [7]
  | .gfdiv _ _ _ | .gflog _ _ => [7, 4]
  | .dpushi _ | .dpush _ | .ldd _ _ | .lde _ _ | .ldo _ _ | .ldg _ _ | .onext _ => [9]
  | .rsgen _ | .rsenc _ => [7, 4, 9]
  | .ilayout => [6]
  | .ilv => [7, 6, 9, 3]

/-- The spaces a command writes, the "written by" column of R30. -/
def spacesWrittenBy : Instr → List Space
  | .gfinit | .gffin => [.exp, .log]
  | .dpushi _ | .dpush _ => [.dmem]
  | .rsgen _ => [.gen]
  | .rsenc _ => [.gen, .emem]
  | .ilv => [.gen, .emem, .omem]
  | .beginEncode => [.dmem, .emem, .omem, .gen]
  | _ => []

/-- The control registers a command writes, by number: the "written by" column of R14, less the fault entry and the count
of completed commands. -/
def csrsWrittenBy : Instr → List Nat
  | .csrwT _ => [0x00, 0x03]
  | .csrwD _ => [0x01, 0x03]
  | .csrwN _ => [0x02, 0x03]
  | .gfinit | .gffin => [0x03]
  | .dpushi _ | .dpush _ => [0x08]
  | .rsgen _ => [0x0C]
  | .rsenc _ => [0x09, 0x0C]
  | .onext _ => [0x0B]
  | .ilayout => [0x03, 0x10, 0x11, 0x12, 0x13, 0x14, 0x15, 0x16]
  | .ilv => [0x03, 0x09, 0x0A, 0x0B, 0x0C, 0x10, 0x11, 0x12, 0x13, 0x14, 0x15, 0x16]
  | .beginEncode =>
    [0x00, 0x01, 0x02, 0x03, 0x04, 0x05, 0x06, 0x08, 0x09, 0x0A, 0x0B, 0x0C, 0x10, 0x11, 0x12, 0x13, 0x14, 0x15, 0x16]
  | _ => []

/-- The layout is refused: no blocks, or no EC byte per block (R101, R102). -/
def badLayout (t d n : Nat) : Prop := n = 0 ∨ t / n ≤ d / n

/-- R101's number of bytes the slices cover (R103). -/
def covered (t d n : Nat) : Nat := (n - t % n) * (d / n) + t % n * (d / n + 1)

/-- R101: the data size of block `b`. -/
def blockLen (t d n b : Nat) : Nat := if b < n - t % n then d / n else d / n + 1

/-- R103's closed form: where the slice of block `b` starts. -/
def blockOff (t d n b : Nat) : Nat :=
  if b ≤ n - t % n then b * (d / n) else (n - t % n) * (d / n) + (b - (n - t % n)) * (d / n + 1)

/-- R105: the codeword sequence of the data slices and EC bytes of the blocks, column by column, blocks in order. -/
def sequence (slices ecs : List (List Byte)) (maxd ecb : Nat) : List Byte :=
  ((List.range maxd).flatMap fun x => slices.filterMap fun b => b[x]?) ++
  ((List.range ecb).flatMap fun x => ecs.filterMap fun b => b[x]?)

end Sys2Proof.Claims

open Sys2Proof.Claims

/-! ### Encoding -/

/-- R50 to R55: no bit of any command's encoding is dropped. -/
def Obligations.EveryCommandRoundTrips : Prop := ∀ i : Instr, decode (encode i) = .ok i

/-- R62: a word decodes exactly when it matches a row of the opcode map, at most one row matches, and the fields the
decoder extracts are those the word was laid out from. -/
def Obligations.DecodingFollowsTheOpcodeMap : Prop :=
  ∀ w : Word,
    ((∃ i, decode w = .ok i) ↔ ∃ row ∈ WellFormed.opcodeMap, row.admits w = true) ∧
    (∀ r₁ ∈ WellFormed.opcodeMap, ∀ r₂ ∈ WellFormed.opcodeMap, r₁.admits w = true → r₂.admits w = true → r₁ = r₂) ∧
    (∀ i, decode w = .ok i → encode i = w)

/-- R56 (with R52, R53): the four ways a word is illegal, and what an illegal word does. -/
def Obligations.IllegalWordsFault : Prop :=
  ∀ w : Word,
    ((∃ e, decode w = .error e) ↔
      WellFormed.opcodeDefined w = false ∨ WellFormed.reservedClear w = false ∨
      WellFormed.registersInRange w = false ∨ WellFormed.csrWritable w = false) ∧
    (∀ e s rest, decode w = .error e → s.input = .command w :: rest → s.fault = false →
      step s = .next (faulted { s with input := rest } 8 w))

/-- Words written out from the formats of R51, one per family, decode to their commands (30_encoding.md section 9). -/
def Obligations.WorkedEncodingsDecode : Prop :=
  decode 0x02000000#32 = .ok .gfinit ∧
  decode 0x1030008E#32 = .ok (.li 3 0x8E) ∧
  decode 0x12123000#32 = .ok (.gfmul 1 2 3) ∧
  decode 0x14070000#32 = .ok (.gfexp 0 7) ∧
  decode 0x08020004#32 = .ok (.csrwN 4) ∧
  decode 0x200000EC#32 = .ok (.dpushi 236) ∧
  decode 0x21500000#32 = .ok (.dpush 5) ∧
  decode 0x25200011#32 = .ok (.lde 2 17) ∧
  decode 0x3100FFFF#32 = .ok (.rsenc 0xFFFF) ∧
  decode 0x39000000#32 = .ok .ilv ∧
  decode 0x3A400000#32 = .ok (.onext 4) ∧
  decode 0x12923000#32 = .error .registerField ∧
  decode 0x02000001#32 = .error .reservedBits ∧
  decode 0x08030000#32 = .error .csrNotWritable ∧
  decode 0x04000000#32 = .error .undefinedOpcode

/-- R61: the pseudo-instructions, down to the words. -/
def Obligations.PseudoInstructionsExpand : Prop :=
  ∀ (v : BitVec 16) (rd ra rb : Reg) (bytes : List Byte),
    (Pseudo.sett v).expand.map encode = [0x08#8 ++ 0x00#8 ++ v] ∧
    (Pseudo.setd v).expand.map encode = [0x08#8 ++ 0x01#8 ++ v] ∧
    (Pseudo.setn v).expand.map encode = [0x08#8 ++ 0x02#8 ++ v] ∧
    (Pseudo.gfsub rd ra rb).expand.map encode = [0x11#8 ++ (0#1 ++ rd) ++ (0#1 ++ ra) ++ (0#1 ++ rb) ++ 0#12] ∧
    (Pseudo.data bytes).expand.map encode = bytes.map fun b => 0x20#8 ++ 0#16 ++ b

/-! ### The step and the fault latch -/

/-- A step whose next input is a word that decodes to `i` is `exec i` at the state without that input; with no input the
engine keeps its state (R153). -/
def Obligations.StepRunsTheDecodedCommand : Prop :=
  (∀ (s : State) (w : Word) (rest : List HostInput) (i : Instr),
    s.input = .command w :: rest → decode w = .ok i → step s = exec i { s with input := rest }) ∧
  (∀ s : State, s.input = [] → step s = .next s)

/-- R154: the issue procedure. -/
def Obligations.IssueProcedure : Prop :=
  ∀ (s s₀ : State) (w : Word) (rest : List HostInput),
    s.input = .command w :: rest → s₀ = { s with input := rest } →
    (s.fault = true → w = 0x01000000#32 → step s = exec .beginEncode s₀) ∧
    (s.fault = true → w ≠ 0x01000000#32 → step s = .next s₀) ∧
    (∀ e, s.fault = false → decode w = .error e → step s = .next (faulted s₀ 8 w)) ∧
    (∀ i, s.fault = false → decode w = .ok i → step s = exec i s₀) ∧
    (∀ t, s.fault = false → step s = .next t →
      (t.fault = false ∧ t.cseq = s.cseq + 1) ∨ ∃ code, t = faulted s₀ code w)

/-- R143: a fault, of a command or of an illegal word, changes the four-field fault record and nothing else. -/
def Obligations.FaultEntryIsPrecise : Prop :=
  (∀ (i : Instr) (s t : State), s.fault = false → exec i s = .next t → t.fault = true →
    ∃ code, t = { s with fault := true, cause := code, fcmd := encode i, fseq := s.cseq }) ∧
  (∀ (s t : State) (w : Word) (rest : List HostInput),
    s.fault = false → s.input = .command w :: rest → step s = .next t → t.fault = true →
    ∃ code, t = { s with input := rest, fault := true, cause := code, fcmd := w, fseq := s.cseq })

/-- R144, R148: while a fault is latched every word but `BEGIN` is discarded, decoded or not, and no second fault is
recorded; `BEGIN` cannot fault. -/
def Obligations.FaultedEngineDiscards : Prop :=
  (∀ (s : State) (w : Word) (rest : List HostInput),
    s.fault = true → s.input = .command w :: rest → w ≠ 0x01000000#32 → step s = .next { s with input := rest }) ∧
  (∀ (i : Instr) (s : State), s.fault = true → i ≠ .beginEncode → exec i s = .next s) ∧
  (∀ s : State, ∃ t, exec .beginEncode s = .next t ∧ t.fault = false)

/-- R145: the faulted state is left by `BEGIN` and by reset, and in no other way. -/
def Obligations.FaultLeftOnlyByBeginOrReset : Prop :=
  ∀ s t : State, s.fault = true → step s = .next t →
    (t.fault = false ↔
      (∃ rest, s.input = .reset :: rest) ∨ (∃ rest, s.input = .command 0x01000000#32 :: rest))

/-- R142: a command raises only the causes of its row. -/
def Obligations.CausesByCommand : Prop :=
  ∀ (i : Instr) (s t : State), s.fault = false → exec i s = .next t → t.fault = true → t.cause ∈ causesOf i

/-- R12: `CSEQ` counts exactly the commands that complete. -/
def Obligations.CommandCounterCountsCompletions : Prop :=
  ∀ (i : Instr) (s t : State), exec i s = .next t → t.cseq = if t.fault then s.cseq else s.cseq + 1

/-! ### What changes what -/

/-- R13's table: what sets and what clears each status flag. -/
def Obligations.FlagsChangeOnlyAsListed : Prop :=
  ∀ (i : Instr) (s t : State), exec i s = .next t →
    (t.tv ≠ s.tv → (i = .gfinit ∧ t.tv = true) ∨ (i = .gffin ∧ t.tv = false)) ∧
    (t.fault ≠ s.fault → t.fault = true ∨ i = .beginEncode) ∧
    (t.lv ≠ s.lv → t.lv = true ∧ (i = .ilayout ∨ i = .ilv) ∨
      t.lv = false ∧ (i = .beginEncode ∨ ∃ v, i = .csrwT v ∨ i = .csrwD v ∨ i = .csrwN v)) ∧
    (t.fault = false →
      (i = .gfinit → t.tv = true) ∧ (i = .gffin → t.tv = false) ∧ (i = .ilayout ∨ i = .ilv → t.lv = true) ∧
      (i = .beginEncode → t.lv = false) ∧ (∀ v, i = .csrwT v ∨ i = .csrwD v ∨ i = .csrwN v → t.lv = false))

/-- R13: no command reads `LV`: with another `LV` a command does the same, but for `LV` itself. -/
def Obligations.NoCommandReadsLv : Prop :=
  ∀ (i : Instr) (s t : State) (b : Bool), exec i s = .next t →
    ∃ t', exec i { s with lv := b } = .next t' ∧ { t' with lv := t.lv } = t

/-- R11: a command leaves every register but its destination alone, and so does one that faults or is discarded. -/
def Obligations.OnlyTheDestinationRegisterChanges : Prop :=
  ∀ (i : Instr) (s t : State) (r : Reg), exec i s = .next t → destination i ≠ some r ∨ t.fault = true →
    t.reg r = s.reg r

/-- R14: a control register changes only by the commands of its "written by" column, the fault record only by fault entry
and `BEGIN`, `CSEQ` only by completion; and no command changes the model's own fields, what the host will issue and the
sizes (assumption log entries 1 and 3). -/
def Obligations.ControlRegistersChangeOnlyAsListed : Prop :=
  ∀ (i : Instr) (s t : State) (n : Nat), exec i s = .next t →
    t.input = s.input ∧ t.sizes = s.sizes ∧
    (t.csr n ≠ s.csr n → n ∈ csrsWrittenBy i ∨
      (t.fault = true ∧ n ∈ [0x03, 0x04, 0x05, 0x06]) ∨ (t.fault = false ∧ n = 0x07))

/-- R30: a byte of a space changes only by the commands that write the space; a push changes the byte at `DLEN` only. -/
def Obligations.SpacesChangeOnlyAsListed : Prop :=
  ∀ (i : Instr) (s t : State) (sp : Space) (a : Nat), exec i s = .next t → t.readByte sp a ≠ s.readByte sp a →
    sp ∈ spacesWrittenBy i ∧ t.fault = false ∧
    ((∃ v, i = .dpushi v) ∨ (∃ r, i = .dpush r) → a = s.dlen.toNat)

/-- R41: while `TV = 1` nothing writes the tables. -/
def Obligations.TablesAreReadOnlyWhileValid : Prop :=
  ∀ s t : State, step s = .next t → s.tv = true → t.tv = true →
    ∀ a, t.readByte .exp a = s.readByte .exp a ∧ t.readByte .log a = s.readByte .log a

/-! ### Invariants and reset -/

/-- R23, R25: the reset state meets the invariants, also in an engine of any other sizes R3 allows (assumption log entry
3). -/
def Obligations.ResetMeetsTheInvariants : Prop :=
  State.reset.Inv ∧ ∀ p : Config.Params, p.legal = true → (State.resetOf p).Inv

/-- R25: every step keeps the invariants, from every state that meets them, whatever sizes R3 allows (assumption log entry
3). -/
def Obligations.StepsKeepTheInvariants : Prop := ∀ s t : State, s.Inv → step s = .next t → t.Inv

/-- R181: from every state that meets the invariants, every word has an outcome: completed, faulted or discarded. -/
def Obligations.EveryWordHasAnOutcome : Prop :=
  ∀ (s : State) (w : Word) (rest : List HostInput), s.Inv → s.input = .command w :: rest →
    ∃ t, step s = .next t ∧
      ((t.fault = false ∧ t.cseq = s.cseq + 1) ∨
       (s.fault = false ∧ ∃ code, t = faulted { s with input := rest } code w) ∨
       (s.fault = true ∧ t = { s with input := rest }))

/-- The model's canonical form of the spaces: every step keeps it, in every state. -/
def Obligations.StepsKeepSpacesCanonical : Prop := ∀ s t : State, s.Canonical → step s = .next t → t.Canonical

/-- R23: every location after reset, as a host read shows it. -/
def Obligations.ResetValues : Prop :=
  (∀ n, n < 8 → State.reset.hostRead (.reg n) = some 0) ∧
  (∀ n, n ≤ 0x0C ∨ (0x10 ≤ n ∧ n ≤ 0x16) → State.reset.hostRead (.csr n) = some 0) ∧
  (∀ sp a, State.reset.readByte sp a = none ∧ State.reset.hostRead (.byte sp a) = none)

/-- R170: reset, in any state, the faulted one too, puts every location to its reset value. The model's own fields, the rest
of the host's input and the sizes, are no locations and stay (assumption log entries 1 and 3). -/
def Obligations.ResetInputResets : Prop :=
  ∀ (s : State) (rest : List HostInput), s.input = .reset :: rest →
    step s = .next { State.reset with sizes := s.sizes, input := rest }

/-- R173: after `GFFIN` and `BEGIN` only the registers and `CSEQ` differ from the reset state (beside the model's own fields,
assumption log entries 1 and 3). -/
def Obligations.GffinThenBeginIsNearlyReset : Prop :=
  ∀ s : State, s.Inv → s.fault = false →
    ∃ t, exec .gffin s = .next t ∧
      exec .beginEncode t = .next { State.reset with g := s.g, cseq := s.cseq + 2, sizes := s.sizes, input := s.input }

/-- R14's numbers and widths: the low bits of a CSR read are the field, the bits above it are zero. -/
def Obligations.ControlRegisterMap : Prop :=
  ∀ s : State,
    s.csr 0x00 = some (0#16 ++ s.cfgT) ∧ s.csr 0x01 = some (0#16 ++ s.cfgD) ∧ s.csr 0x02 = some (0#16 ++ s.cfgN) ∧
    s.csr 0x03 = some s.status ∧ s.csr 0x04 = some (0#28 ++ s.cause) ∧ s.csr 0x05 = some s.fcmd ∧
    s.csr 0x06 = some s.fseq ∧ s.csr 0x07 = some s.cseq ∧ s.csr 0x08 = some (0#16 ++ s.dlen) ∧
    s.csr 0x09 = some (0#16 ++ s.elen) ∧ s.csr 0x0A = some (0#16 ++ s.olen) ∧ s.csr 0x0B = some (0#16 ++ s.optr) ∧
    s.csr 0x0C = some (0#16 ++ s.gdeg) ∧ s.csr 0x10 = some (0#15 ++ s.g1b) ∧ s.csr 0x11 = some (0#15 ++ s.g2b) ∧
    s.csr 0x12 = some (0#15 ++ s.g1t) ∧ s.csr 0x13 = some (0#15 ++ s.g2t) ∧ s.csr 0x14 = some (0#15 ++ s.g1d) ∧
    s.csr 0x15 = some (0#15 ++ s.g2d) ∧ s.csr 0x16 = some (0#15 ++ s.ecb)

/-- R16, R147: STATUS bit by bit, and FAULT_O. -/
def Obligations.StatusWordLayout : Prop :=
  ∀ s : State,
    s.csr 0x03 = some s.status ∧
    s.status.getLsbD 0 = s.tv ∧ s.status.getLsbD 1 = s.fault ∧ s.status.getLsbD 2 = s.lv ∧
    (∀ k, 3 ≤ k → s.status.getLsbD k = false) ∧ s.faultOut = s.status.getLsbD 1

/-- R176 (with R14's numbers and R30's valid entries): what a host read of a location that does not exist or holds no value
gives, and that a register and a valid byte read as they are. That a host read is a function of the state, so that it can
change nothing, and that registers and bytes are widened to 32 bits, is the model's choice (assumption log entry 6). -/
def Obligations.HostReads : Prop :=
  ∀ s : State,
    (∀ r : Reg, s.hostRead (.reg r.toNat) = some ((s.reg r).setWidth 32)) ∧
    (∀ n, 8 ≤ n → s.hostRead (.reg n) = none) ∧
    (∀ n, (s.hostRead (.csr n)).isSome = true ↔ n ≤ 0x0C ∨ (0x10 ≤ n ∧ n ≤ 0x16)) ∧
    (∀ sp a, s.validIndex sp a = true → s.hostRead (.byte sp a) = (s.readByte sp a).map fun v => v.setWidth 32) ∧
    (s.tv = false → ∀ a, s.hostRead (.byte .exp a) = none ∧ s.hostRead (.byte .log a) = none) ∧
    (∀ a, 254 < a → s.hostRead (.byte .exp a) = none) ∧ (∀ a, a = 0 ∨ 255 < a → s.hostRead (.byte .log a) = none) ∧
    (∀ a, s.dlen.toNat ≤ a → s.hostRead (.byte .dmem a) = none) ∧
    (∀ a, s.elen.toNat ≤ a → s.hostRead (.byte .emem a) = none) ∧
    (∀ a, s.olen.toNat ≤ a → s.hostRead (.byte .omem a) = none) ∧
    (∀ a, s.gdeg = 0 ∨ s.gdeg.toNat < a → s.hostRead (.byte .gen a) = none)

/-! ### The field -/

/-- R71: ALPHA = 0x02 has order exactly 255: its powers are the 255 nonzero bytes. -/
def Obligations.AlphaHasOrder255 : Prop :=
  alphaPow 1 = 0x02#8 ∧ alphaPow 255 = 0x01#8 ∧
  (∀ i j, i < 255 → j < 255 → alphaPow i = alphaPow j → i = j) ∧
  (∀ v : Byte, v ≠ 0x00#8 ↔ ∃ i, i < 255 ∧ alphaPow i = v)

/-- R72, R73: `xtime` in its second form, and the table-free product as the sum of `a` times ALPHA^i over the bits of `b`,
with the laws R73 lists. -/
def Obligations.ProductIsPolynomialProduct : Prop :=
  (∀ a : Byte, xtime a = if a.getLsbD 7 then (a <<< 1) ^^^ 0x1D#8 else a <<< 1) ∧
  (∀ a b : Byte,
    fmul a b = (List.range 8).foldl (fun p i => if b.getLsbD i then p ^^^ timesAlphaPow a i else p) 0x00#8) ∧
  (∀ a b : Byte, fmul a b = fmul b a ∧ fmul a 0x00 = 0x00 ∧ fmul a 0x01 = a ∧ fmul a 0x02 = xtime a)

/-- R86: the table product is the field product, for all 65536 pairs. -/
def Obligations.TableProductIsFieldProduct : Prop :=
  ∀ a b : Byte, gfmul builtTables.1 builtTables.2 a b = some (fmul a b)

/-- R77: the laws of the arithmetic, with the tables of R74. -/
def Obligations.FieldArithmeticLaws : Prop :=
  let mul := gfmul builtTables.1 builtTables.2
  let div := gfdiv builtTables.1 builtTables.2
  ∀ a b c : Byte,
    gfadd a b = gfadd b a ∧ gfadd a 0 = a ∧ gfadd a a = 0 ∧
    mul a b = mul b a ∧
    (mul b c).bind (mul a) = (mul a b).bind (fun x => mul x c) ∧
    mul a (gfadd b c) = (mul a b).bind (fun x => (mul a c).map (gfadd x)) ∧
    mul a 1 = some a ∧ mul a 0 = some 0 ∧ (mul a b = some 0 → a = 0 ∨ b = 0) ∧
    (b ≠ 0 → (∃ q, div a b = some q) ∧ (div a b).bind (fun q => mul q b) = some a ∧ div 0 b = some 0) ∧
    (a ≠ 0 → div a a = some 1) ∧ div a 1 = some a ∧
    (∀ i, i < 255 → alphaPow i = a → div 1 a = some (alphaPow ((255 - i) % 255)))

/-! ### Galois-field commands -/

/-- R78 (with R74): `GFINIT`. -/
def Obligations.GfinitBuildsTheTables : Prop :=
  OnlyWord .gfinit 0x02000000#32 ∧
  (∀ s : State, s.fault = true → exec .gfinit s = .next s) ∧
  (∀ s : State, s.fault = false → s.tv = true → exec .gfinit s = .next { s with cseq := s.cseq + 1 }) ∧
  (∀ s : State, s.fault = false → s.tv = false →
    ∃ exp log : Memory,
      (∀ i, Memory.read exp i = if i < 255 then some (alphaPow i) else none) ∧
      (∀ v i, Memory.read log v = some i ↔ i.toNat < 255 ∧ v = (alphaPow i.toNat).toNat) ∧
      exec .gfinit s = .next { s with exp := exp, log := log, tv := true, cseq := s.cseq + 1 })

/-- R79: `GFFIN`. -/
def Obligations.GffinTearsTheTablesDown : Prop :=
  OnlyWord .gffin 0x03000000#32 ∧
  (∀ s : State, s.fault = false → s.tv = false → exec .gffin s = .next { s with cseq := s.cseq + 1 }) ∧
  (∀ s : State, s.fault = false → s.tv = true →
    exec .gffin s = .next { s with exp := [], log := [], tv := false, cseq := s.cseq + 1 })

/-- R80: `LI`. -/
def Obligations.LiLoadsAByte : Prop :=
  ∀ (rd : Reg) (imm8 : Byte),
    OnlyWord (.li rd imm8) (0x10#8 ++ (0#1 ++ rd) ++ 0#12 ++ imm8) ∧
    ∀ s : State, s.fault = false →
      exec (.li rd imm8) s = .next { s with g := s.g.set rd.toNat imm8 rd.isLt, cseq := s.cseq + 1 }

/-- R81 (with R70): `GFADD`, with or without the tables; `GFSUB` is the same command. -/
def Obligations.GfaddAdds : Prop :=
  ∀ rd ra rb : Reg,
    (Pseudo.gfsub rd ra rb).expand = [.gfadd rd ra rb] ∧
    OnlyWord (.gfadd rd ra rb) (0x11#8 ++ (0#1 ++ rd) ++ (0#1 ++ ra) ++ (0#1 ++ rb) ++ 0#12) ∧
    ∀ s : State, s.fault = false →
      exec (.gfadd rd ra rb) s =
        .next { s with g := s.g.set rd.toNat (s.reg ra ^^^ s.reg rb) rd.isLt, cseq := s.cseq + 1 }

/-- R82 (with R75): `GFMUL`. -/
def Obligations.GfmulMultiplies : Prop :=
  ∀ rd ra rb : Reg,
    OnlyWord (.gfmul rd ra rb) (0x12#8 ++ (0#1 ++ rd) ++ (0#1 ++ ra) ++ (0#1 ++ rb) ++ 0#12) ∧
    ∀ s : State, s.fault = false →
      (s.tv = false → exec (.gfmul rd ra rb) s = .next (faulted s 7 (encode (.gfmul rd ra rb)))) ∧
      (s.TablesBuilt →
        ∃ v : Byte,
          (s.reg ra = 0 ∨ s.reg rb = 0 → v = 0) ∧
          (s.reg ra ≠ 0 → s.reg rb ≠ 0 →
            ∃ i j, i < 255 ∧ j < 255 ∧ alphaPow i = s.reg ra ∧ alphaPow j = s.reg rb ∧ v = alphaPow ((i + j) % 255)) ∧
          exec (.gfmul rd ra rb) s = .next { s with g := s.g.set rd.toNat v rd.isLt, cseq := s.cseq + 1 })

/-- R83 (with R76): `GFDIV`. -/
def Obligations.GfdivDivides : Prop :=
  ∀ rd ra rb : Reg,
    OnlyWord (.gfdiv rd ra rb) (0x13#8 ++ (0#1 ++ rd) ++ (0#1 ++ ra) ++ (0#1 ++ rb) ++ 0#12) ∧
    ∀ s : State, s.fault = false →
      (s.tv = false → exec (.gfdiv rd ra rb) s = .next (faulted s 7 (encode (.gfdiv rd ra rb)))) ∧
      (s.tv = true → s.reg rb = 0 → exec (.gfdiv rd ra rb) s = .next (faulted s 4 (encode (.gfdiv rd ra rb)))) ∧
      (s.TablesBuilt → s.reg rb ≠ 0 →
        ∃ v : Byte,
          (s.reg ra = 0 → v = 0) ∧
          (s.reg ra ≠ 0 →
            ∃ i j, i < 255 ∧ j < 255 ∧ alphaPow i = s.reg ra ∧ alphaPow j = s.reg rb ∧
              v = alphaPow ((i + 255 - j) % 255)) ∧
          (∀ q : Byte, fmul q (s.reg rb) = s.reg ra ↔ q = v) ∧
          exec (.gfdiv rd ra rb) s = .next { s with g := s.g.set rd.toNat v rd.isLt, cseq := s.cseq + 1 })

/-- R84: `GFEXP`. -/
def Obligations.GfexpReadsThePower : Prop :=
  ∀ rd ra : Reg,
    OnlyWord (.gfexp rd ra) (0x14#8 ++ (0#1 ++ rd) ++ (0#1 ++ ra) ++ 0#16) ∧
    ∀ s : State, s.fault = false →
      (s.tv = false → exec (.gfexp rd ra) s = .next (faulted s 7 (encode (.gfexp rd ra)))) ∧
      (s.TablesBuilt →
        exec (.gfexp rd ra) s =
          .next { s with g := s.g.set rd.toNat (alphaPow ((s.reg ra).toNat % 255)) rd.isLt, cseq := s.cseq + 1 })

/-- R85: `GFLOG`. -/
def Obligations.GflogReadsTheLogarithm : Prop :=
  ∀ rd ra : Reg,
    OnlyWord (.gflog rd ra) (0x15#8 ++ (0#1 ++ rd) ++ (0#1 ++ ra) ++ 0#16) ∧
    ∀ s : State, s.fault = false →
      (s.tv = false → exec (.gflog rd ra) s = .next (faulted s 7 (encode (.gflog rd ra)))) ∧
      (s.tv = true → s.reg ra = 0 → exec (.gflog rd ra) s = .next (faulted s 4 (encode (.gflog rd ra)))) ∧
      (s.TablesBuilt → s.reg ra ≠ 0 →
        ∃ i : Byte, i.toNat < 255 ∧ alphaPow i.toNat = s.reg ra ∧
          exec (.gflog rd ra) s = .next { s with g := s.g.set rd.toNat i rd.isLt, cseq := s.cseq + 1 })

/-! ### Reed-Solomon commands -/

/-- R91: the generator built from the tables is the product of `(x + ALPHA^i)` for `i` = 0, …, r-1: monic of degree `r`,
with those roots. -/
def Obligations.GeneratorIsProductOfRoots : Prop :=
  ∀ r : Nat, 1 ≤ r →
    generator builtTables.1 builtTables.2 r = some (refGenerator r) ∧
    (refGenerator r).length = r + 1 ∧ (refGenerator r)[r]? = some 0x01#8 ∧
    ∀ i, i < r → horner (refGenerator r).reverse (alphaPow i) = 0x00#8

/-- R92: the EC bytes computed from the tables are the remainder of `d(x) * x^r` divided by `g_r(x)`, and the only one. -/
def Obligations.EcBytesAreTheRemainder : Prop :=
  ∀ (r : Nat) (d : List Byte), 1 ≤ r →
    ∃ e : List Byte,
      remainder builtTables.1 builtTables.2 d (refGenerator r) = some e ∧
      IsRemainder d e r ∧ (∀ e', IsRemainder d e' r → e' = e) ∧ (d = [] → e = List.replicate r 0x00#8)

/-- R95: the codeword the encoder produces has `r` zero syndromes. -/
def Obligations.CodewordsHaveZeroSyndromes : Prop :=
  ∀ (r : Nat) (d gen e : List Byte), 1 ≤ r →
    generator builtTables.1 builtTables.2 r = some gen → remainder builtTables.1 builtTables.2 d gen = some e →
    ∀ i, i < r → horner (d ++ e) (alphaPow i) = 0x00#8

/-- R93: `RSGEN`. `RMAX` is the size of R3 as the state carries it (the model's choice, assumption log entry 3). -/
def Obligations.RsgenBuildsTheGenerator : Prop :=
  ∀ imm16 : BitVec 16,
    OnlyWord (.rsgen imm16) (0x30#8 ++ 0#8 ++ imm16) ∧
    ∀ s : State, s.fault = false →
      (s.tv = false → exec (.rsgen imm16) s = .next (faulted s 7 (encode (.rsgen imm16)))) ∧
      (s.tv = true → imm16.toInt ≤ 0 → exec (.rsgen imm16) s = .next (faulted s 4 (encode (.rsgen imm16)))) ∧
      (s.tv = true → (s.sizes.rmax : Int) < imm16.toInt →
        exec (.rsgen imm16) s = .next (faulted s 9 (encode (.rsgen imm16)))) ∧
      (s.TablesBuilt → 0 < imm16.toInt → imm16.toInt ≤ s.sizes.rmax →
        exec (.rsgen imm16) s =
          .next { s with gen := Memory.fill (refGenerator imm16.toNat), gdeg := imm16, cseq := s.cseq + 1 })

/-- R94: `RSENC`. `RMAX` is the size of R3 as the state carries it (the model's choice, assumption log entry 3). -/
def Obligations.RsencEncodesTheDataBuffer : Prop :=
  ∀ imm16 : BitVec 16,
    OnlyWord (.rsenc imm16) (0x31#8 ++ 0#8 ++ imm16) ∧
    ∀ s : State, s.fault = false →
      (s.tv = false → exec (.rsenc imm16) s = .next (faulted s 7 (encode (.rsenc imm16)))) ∧
      (s.tv = true → imm16.toInt ≤ 0 → exec (.rsenc imm16) s = .next (faulted s 4 (encode (.rsenc imm16)))) ∧
      (s.tv = true → (s.sizes.rmax : Int) < imm16.toInt →
        exec (.rsenc imm16) s = .next (faulted s 9 (encode (.rsenc imm16)))) ∧
      (∀ d, s.TablesBuilt → HoldsData s d → 0 < imm16.toInt → imm16.toInt ≤ s.sizes.rmax →
        ∃ e, IsRemainder d e imm16.toNat ∧
          exec (.rsenc imm16) s =
            .next { s with gen := Memory.fill (refGenerator imm16.toNat), gdeg := imm16,
                           emem := Memory.fill e, elen := imm16, cseq := s.cseq + 1 })

/-- R96: the EC bytes of `RSENC` and `ILV` are a function of the data bytes and the count (for `ILV`, the layout's) alone. The
sizes, which the state carries by the model's choice (assumption log entry 3), decide only whether there are any. -/
def Obligations.EncodingIsDeterministic : Prop :=
  ∀ (s₁ s₂ t₁ t₂ : State) (d : List Byte),
    s₁.fault = false → s₂.fault = false → s₁.TablesBuilt → s₂.TablesBuilt → HoldsData s₁ d → HoldsData s₂ d →
    (∀ imm16, exec (.rsenc imm16) s₁ = .next t₁ → exec (.rsenc imm16) s₂ = .next t₂ → t₁.fault = false →
      (s₁.sizes = s₂.sizes → t₂.fault = false) ∧
      (t₂.fault = false → ∀ a, t₁.readByte .emem a = t₂.readByte .emem a)) ∧
    (s₁.cfgT = s₂.cfgT → s₁.cfgD = s₂.cfgD → s₁.cfgN = s₂.cfgN →
      exec .ilv s₁ = .next t₁ → exec .ilv s₂ = .next t₂ → t₁.fault = false →
      (s₁.sizes = s₂.sizes → t₂.fault = false) ∧
      (t₂.fault = false → ∀ a, t₁.readByte .emem a = t₂.readByte .emem a))

/-! ### Interleaver and sequencer commands -/

/-- R107 (with R101, R102): `ILAYOUT`. -/
def Obligations.IlayoutComputesTheLayout : Prop :=
  OnlyWord .ilayout 0x38000000#32 ∧
  ∀ (s : State) (t d n : Nat), s.fault = false → t = s.cfgT.toNat → d = s.cfgD.toNat → n = s.cfgN.toNat →
    (badLayout t d n → exec .ilayout s = .next (faulted s 6 0x38000000#32)) ∧
    (¬ badLayout t d n →
      ∃ u, exec .ilayout s = .next u ∧
        u = { s with g1b := u.g1b, g2b := u.g2b, g1t := u.g1t, g2t := u.g2t, g1d := u.g1d, g2d := u.g2d, ecb := u.ecb,
                     lv := true, cseq := s.cseq + 1 } ∧
        u.g2b.toNat = t % n ∧ u.g1b.toNat = n - t % n ∧ u.g1t.toNat = t / n ∧ u.g2t.toNat = t / n + 1 ∧
        u.g1d.toNat = d / n ∧ u.g2d.toNat = d / n + 1 ∧ u.ecb.toNat = t / n - d / n)

/-- R108 (with R104, R105): `ILV`. `OMAX`, `EMAX` and `RMAX` are the sizes of R3 as the state carries them (the model's choice,
assumption log entry 3). -/
def Obligations.IlvInterleaves : Prop :=
  OnlyWord .ilv 0x39000000#32 ∧
  ∀ (s : State) (t d n ecb : Nat), s.fault = false →
    t = s.cfgT.toNat → d = s.cfgD.toNat → n = s.cfgN.toNat → ecb = t / n - d / n →
    (s.tv = false → exec .ilv s = .next (faulted s 7 0x39000000#32)) ∧
    (s.tv = true → badLayout t d n → exec .ilv s = .next (faulted s 6 0x39000000#32)) ∧
    (s.tv = true → ¬ badLayout t d n → s.sizes.omax < t ∨ s.sizes.emax < n * ecb ∨ s.sizes.rmax < ecb →
      exec .ilv s = .next (faulted s 9 0x39000000#32)) ∧
    (s.tv = true → ¬ badLayout t d n → t ≤ s.sizes.omax → n * ecb ≤ s.sizes.emax → ecb ≤ s.sizes.rmax →
      s.dlen.toNat ≠ d ∨ covered t d n ≠ d → exec .ilv s = .next (faulted s 3 0x39000000#32)) ∧
    (∀ data, s.TablesBuilt → HoldsData s data → ¬ badLayout t d n →
      t ≤ s.sizes.omax → n * ecb ≤ s.sizes.emax → ecb ≤ s.sizes.rmax → s.dlen.toNat = d → covered t d n = d →
      ∃ slices ecs : List (List Byte),
        slices.length = n ∧ ecs.length = n ∧
        (∀ b, b < n → ∃ e, slices[b]? = some ((data.drop (blockOff t d n b)).take (blockLen t d n b)) ∧
          ecs[b]? = some e ∧ IsRemainder ((data.drop (blockOff t d n b)).take (blockLen t d n b)) e ecb) ∧
        exec .ilv s = .next
          { s with
            g1b := BitVec.ofNat 17 (n - t % n), g2b := BitVec.ofNat 17 (t % n),
            g1t := BitVec.ofNat 17 (t / n), g2t := BitVec.ofNat 17 (t / n + 1),
            g1d := BitVec.ofNat 17 (d / n), g2d := BitVec.ofNat 17 (d / n + 1), ecb := BitVec.ofNat 17 ecb, lv := true,
            gen := Memory.fill (refGenerator ecb), gdeg := BitVec.ofNat 16 ecb,
            emem := Memory.fill ecs.flatten, elen := BitVec.ofNat 16 (n * ecb),
            omem := Memory.fill (sequence slices ecs (if 0 < t % n then d / n + 1 else d / n) ecb),
            olen := s.cfgT, optr := 0, cseq := s.cseq + 1 })

/-- R109: `ONEXT`. -/
def Obligations.OnextHandsOutTheNextCodeword : Prop :=
  ∀ rd : Reg,
    OnlyWord (.onext rd) (0x3A#8 ++ (0#1 ++ rd) ++ 0#20) ∧
    ∀ s : State, s.fault = false →
      (s.olen.toNat ≤ s.optr.toNat → exec (.onext rd) s = .next (faulted s 9 (encode (.onext rd)))) ∧
      (∀ v, s.optr.toNat < s.olen.toNat → s.readByte .omem s.optr.toNat = some v →
        exec (.onext rd) s =
          .next { s with g := s.g.set rd.toNat v rd.isLt, optr := s.optr + 1, cseq := s.cseq + 1 })

/-- R110: after a successful `ILV` the slices are consecutive and cover the data, the output has `T` codewords, and both
passes can be undone by position. -/
def Obligations.IlvRoundTrip : Prop :=
  ∀ (s u : State) (t d n ecb : Nat), s.Inv → s.fault = false → exec .ilv s = .next u → u.fault = false →
    t = s.cfgT.toNat → d = s.cfgD.toNat → n = s.cfgN.toNat → ecb = t / n - d / n →
    (blockOff t d n 0 = 0 ∧ (∀ b, b < n → blockOff t d n (b + 1) = blockOff t d n b + blockLen t d n b) ∧
      blockOff t d n n = d ∧ u.dlen.toNat = d ∧ ∀ a, u.readByte .dmem a = s.readByte .dmem a) ∧
    u.olen.toNat = t ∧
    (∀ b x, b < n → x < blockLen t d n b →
      (u.readByte .dmem (blockOff t d n b + x)).isSome = true ∧
      u.readByte .omem (if x < d / n then x * n + b else d / n * n + (b - (n - t % n))) =
        u.readByte .dmem (blockOff t d n b + x)) ∧
    (∀ b x, b < n → x < ecb →
      (u.readByte .emem (b * ecb + x)).isSome = true ∧
      u.readByte .omem (d + x * n + b) = u.readByte .emem (b * ecb + x))

/-- R111 and R106: after a successful `ILV`, `T = D + N * ECB`, `ELEN = N * ECB`, and the slices cover `D`; the sequence an
`ILV` computes never has a length other than `T`. -/
def Obligations.IlvSymbolInvariant : Prop :=
  (∀ s u : State, s.fault = false → exec .ilv s = .next u → u.fault = false →
    s.cfgT.toNat = s.cfgD.toNat + s.cfgN.toNat * u.ecb.toNat ∧
    u.elen.toNat = s.cfgN.toNat * u.ecb.toNat ∧
    u.g1b.toNat * u.g1d.toNat + u.g2b.toNat * u.g2d.toNat = s.cfgD.toNat) ∧
  (∀ (s : State) (l : Layout) (r : Interleaved), s.layout = .ok l → l.covered = s.cfgD.toNat →
    encodeBlocks s.exp s.log s.dmem s.cfgN.toNat l = some r → r.out.length = s.cfgT.toNat)

/-! ### Buffer and control commands -/

/-- R120: `NOP`; the other words of its opcode are illegal. -/
def Obligations.NopOnlyCounts : Prop :=
  OnlyWord .nop 0x00000000#32 ∧
  (∀ x : BitVec 24, x ≠ 0 → decode (0x00#8 ++ x) = .error .reservedBits) ∧
  (∀ s : State, s.fault = true → exec .nop s = .next s) ∧
  ∀ s : State, s.fault = false → exec .nop s = .next { s with cseq := s.cseq + 1 }

/-- R121: `BEGIN`, also while a fault is latched; the other words of its opcode are illegal, or discarded while faulted. The
model's own fields stay (assumption log entries 1 and 3). -/
def Obligations.BeginStartsAFreshEncode : Prop :=
  OnlyWord .beginEncode 0x01000000#32 ∧
  (∀ x : BitVec 24, x ≠ 0 → decode (0x01#8 ++ x) = .error .reservedBits) ∧
  (∀ (x : BitVec 24) (s : State) (rest : List HostInput),
    x ≠ 0 → s.fault = true → s.input = .command (0x01#8 ++ x) :: rest → step s = .next { s with input := rest }) ∧
  (∀ (i : Instr) (s : State), i ≠ .beginEncode → s.fault = true → exec i s = .next s) ∧
  ∀ s : State,
    exec .beginEncode s = .next
      { State.reset with
        g := s.g, tv := s.tv, exp := s.exp, log := s.log, cseq := s.cseq + 1, sizes := s.sizes, input := s.input }

/-- R122: `CSRW` to each of its three registers. -/
def Obligations.CsrwWritesTheConfiguration : Prop :=
  ∀ imm16 : BitVec 16,
    OnlyWord (.csrwT imm16) (0x08#8 ++ 0x00#8 ++ imm16) ∧
    OnlyWord (.csrwD imm16) (0x08#8 ++ 0x01#8 ++ imm16) ∧
    OnlyWord (.csrwN imm16) (0x08#8 ++ 0x02#8 ++ imm16) ∧
    (∀ csr : BitVec 8, 2 < csr.toNat → decode (0x08#8 ++ csr ++ imm16) = .error .csrNotWritable) ∧
    ∀ s : State, s.fault = false →
      exec (.csrwT imm16) s = .next { s with cfgT := imm16, lv := false, cseq := s.cseq + 1 } ∧
      exec (.csrwD imm16) s = .next { s with cfgD := imm16, lv := false, cseq := s.cseq + 1 } ∧
      exec (.csrwN imm16) s = .next { s with cfgN := imm16, lv := false, cseq := s.cseq + 1 }

/-- R123: `DPUSHI`. `DMAX` is the size of R3 as the state carries it (the model's choice, assumption log entry 3). -/
def Obligations.DpushiAppends : Prop :=
  ∀ imm8 : Byte,
    OnlyWord (.dpushi imm8) (0x20#8 ++ 0#16 ++ imm8) ∧
    ∀ s : State, s.fault = false →
      (s.sizes.dmax ≤ s.dlen.toNat → exec (.dpushi imm8) s = .next (faulted s 9 (encode (.dpushi imm8)))) ∧
      (s.dlen.toNat < s.sizes.dmax →
        ∃ m : Memory, (∀ a, Memory.read m a = if a = s.dlen.toNat then some imm8 else s.readByte .dmem a) ∧
          exec (.dpushi imm8) s = .next { s with dmem := m, dlen := s.dlen + 1, cseq := s.cseq + 1 })

/-- R124: `DPUSH`. `DMAX` is the size of R3 as the state carries it (the model's choice, assumption log entry 3). -/
def Obligations.DpushAppendsARegister : Prop :=
  ∀ rs : Reg,
    OnlyWord (.dpush rs) (0x21#8 ++ (0#1 ++ rs) ++ 0#20) ∧
    ∀ s : State, s.fault = false →
      (s.sizes.dmax ≤ s.dlen.toNat → exec (.dpush rs) s = .next (faulted s 9 (encode (.dpush rs)))) ∧
      (s.dlen.toNat < s.sizes.dmax →
        ∃ m : Memory, (∀ a, Memory.read m a = if a = s.dlen.toNat then some (s.reg rs) else s.readByte .dmem a) ∧
          exec (.dpush rs) s = .next { s with dmem := m, dlen := s.dlen + 1, cseq := s.cseq + 1 })

/-- R125: `LDD`. -/
def Obligations.LddLoadsFromDmem : Prop :=
  ∀ (rd : Reg) (a : BitVec 16),
    OnlyWord (.ldd rd a) (0x24#8 ++ (0#1 ++ rd) ++ 0#4 ++ a) ∧
    ∀ s : State, s.fault = false →
      (s.dlen.toNat ≤ a.toNat → exec (.ldd rd a) s = .next (faulted s 9 (encode (.ldd rd a)))) ∧
      (∀ v, a.toNat < s.dlen.toNat → s.readByte .dmem a.toNat = some v →
        exec (.ldd rd a) s = .next { s with g := s.g.set rd.toNat v rd.isLt, cseq := s.cseq + 1 })

/-- R126: `LDE`. -/
def Obligations.LdeLoadsFromEmem : Prop :=
  ∀ (rd : Reg) (a : BitVec 16),
    OnlyWord (.lde rd a) (0x25#8 ++ (0#1 ++ rd) ++ 0#4 ++ a) ∧
    ∀ s : State, s.fault = false →
      (s.elen.toNat ≤ a.toNat → exec (.lde rd a) s = .next (faulted s 9 (encode (.lde rd a)))) ∧
      (∀ v, a.toNat < s.elen.toNat → s.readByte .emem a.toNat = some v →
        exec (.lde rd a) s = .next { s with g := s.g.set rd.toNat v rd.isLt, cseq := s.cseq + 1 })

/-- R127: `LDO`. -/
def Obligations.LdoLoadsFromOmem : Prop :=
  ∀ (rd : Reg) (a : BitVec 16),
    OnlyWord (.ldo rd a) (0x26#8 ++ (0#1 ++ rd) ++ 0#4 ++ a) ∧
    ∀ s : State, s.fault = false →
      (s.olen.toNat ≤ a.toNat → exec (.ldo rd a) s = .next (faulted s 9 (encode (.ldo rd a)))) ∧
      (∀ v, a.toNat < s.olen.toNat → s.readByte .omem a.toNat = some v →
        exec (.ldo rd a) s = .next { s with g := s.g.set rd.toNat v rd.isLt, cseq := s.cseq + 1 })

/-- R128: `LDG`. -/
def Obligations.LdgLoadsFromGen : Prop :=
  ∀ (rd : Reg) (a : BitVec 16),
    OnlyWord (.ldg rd a) (0x27#8 ++ (0#1 ++ rd) ++ 0#4 ++ a) ∧
    ∀ s : State, s.fault = false →
      (s.gdeg = 0 ∨ s.gdeg.toNat < a.toNat → exec (.ldg rd a) s = .next (faulted s 9 (encode (.ldg rd a)))) ∧
      (∀ v, s.gdeg ≠ 0 → a.toNat ≤ s.gdeg.toNat → s.readByte .gen a.toNat = some v →
        exec (.ldg rd a) s = .next { s with g := s.g.set rd.toNat v rd.isLt, cseq := s.cseq + 1 })
end

