-- ==== Sys2Proof/Laws/Encoder.lean ====
section
/-! SUPPORT. What the shared computations of the encoder answer, when they answer: the lengths and the entries of slices,
generators, remainders and codeword sequences (41_rs_encoder.md, 42_interleaver_sequencer.md). -/

namespace Sys2Proof.Machine

/-- An answer of `mapM` has the length of its input, and answers entry by entry. -/
theorem mapM_some {α β : Type} {f : α → Option β} :
    ∀ {xs : List α} {ys : List β}, xs.mapM f = some ys →
      ys.length = xs.length ∧ ∀ k : Nat, ys[k]? = xs[k]?.bind f
  | [], ys, h => by
    cases Option.some.inj (by simpa using h : some [] = some ys); simp
  | x :: xs, ys, h => by
    simp only [List.mapM_cons, Option.bind_eq_bind, Option.pure_def, Option.bind_eq_some_iff] at h
    obtain ⟨y, hy, zs, hzs, hys⟩ := h
    cases Option.some.inj hys
    obtain ⟨hl, hk⟩ := mapM_some hzs
    refine ⟨by simp [hl], fun k => ?_⟩
    cases k with
    | zero => simp [hy]
    | succ k => simpa using hk k

/-- A slice has the length asked for, and its bytes are those of the space. -/
theorem Memory.slice_some {m : Memory} {off n : Nat} {bs : List Byte} (h : Memory.slice m off n = some bs) :
    bs.length = n ∧ ∀ x, x < n → bs[x]? = Memory.read m (off + x) := by
  obtain ⟨hl, hk⟩ := mapM_some h
  refine ⟨by simpa using hl, fun x hx => ?_⟩
  rw [hk x, List.getElem?_range hx]; rfl

/-- A round of the generator's loop lengthens the polynomial by one. -/
theorem generatorRound_length {exp log : Memory} {gen gen' : List Byte} {root : Byte}
    (h : generatorRound exp log gen root = some gen') : gen'.length = gen.length + 1 := by
  unfold generatorRound at h
  split at h
  · next products hp => cases h; simp [(mapM_some hp).1]
  · cases h

/-- An answer of `foldlM` keeps what every round keeps, counting the rounds. -/
theorem foldlM_some {α β : Type} {f : β → α → Option β} {P : Nat → β → Prop}
    (hf : ∀ n b a b', P n b → f b a = some b' → P (n + 1) b') :
    ∀ {xs : List α} {n : Nat} {b b' : β}, P n b → xs.foldlM f b = some b' → P (n + xs.length) b'
  | [], n, b, b', hb, h => by cases Option.some.inj (by simpa using h : some b = some b'); simpa using hb
  | x :: xs, n, b, b', hb, h => by
    simp only [List.foldlM_cons, Option.bind_eq_bind, Option.bind_eq_some_iff] at h
    obtain ⟨c, hc, h⟩ := h
    have := foldlM_some hf (hf n b x c hb hc) h
    simpa [Nat.add_assoc, Nat.add_comm, Nat.add_left_comm] using this

/-- A generator of degree `r` has `r + 1` coefficients (R91). -/
theorem generator_length {exp log : Memory} {r : Nat} {gen : List Byte} (h : generator exp log r = some gen) :
    gen.length = r + 1 := by
  have := foldlM_some (P := fun n (b : List Byte) => b.length = n + 1)
    (fun n b i b' hb hr => by
      split at hr
      · rw [generatorRound_length hr, hb]
      · cases hr) (n := 0) rfl h
  simpa using this

/-- A round of the division keeps the number of remainder bytes (R92). -/
theorem remainderRound_length {exp log : Memory} {gen rem rem' : List Byte} {d : Byte} (hg : rem.length + 1 = gen.length)
    (hpos : 0 < rem.length) (h : remainderRound exp log gen rem d = some rem') : rem'.length = rem.length := by
  unfold remainderRound at h
  simp only at h
  split at h
  · next products hp =>
    cases h
    have := (mapM_some hp).1
    simp only [List.length_reverse, List.length_dropLast] at this
    simp only [List.length_zipWith, List.length_append, List.length_drop, List.length_singleton, this]
    omega
  · cases h

/-- The EC bytes of a data block are as many as the degree of the generator (R92). -/
theorem remainder_length {exp log : Memory} {d gen ec : List Byte} {r : Nat} (hg : gen.length = r + 1) (hr : 1 ≤ r)
    (h : remainder exp log d gen = some ec) : ec.length = r := by
  refine foldlM_some (P := fun _ (b : List Byte) => b.length = r)
    (fun n b a b' hb hround => ?_) (n := 0) (by simp [hg]) h
  rw [remainderRound_length (by omega) (by omega) hround, hb]

/-- A table product reads no table when an operand is zero (R75). -/
@[simp] theorem gfmul_zero_left (exp log : Memory) (b : Byte) : gfmul exp log 0x00#8 b = some 0x00#8 := by simp [gfmul]

/-- The same, for the other operand. -/
@[simp] theorem gfmul_zero_right (exp log : Memory) (a : Byte) : gfmul exp log a 0x00#8 = some 0x00#8 := by simp [gfmul]

/-- R103: each slice is the part of DMEM of its block. -/
theorem dataSlices_some {dmem : Memory} {n : Nat} {l : Layout} {slices : List (List Byte)}
    (h : dataSlices dmem n l = some slices) :
    slices.length = n ∧ ∀ b, b < n → slices[b]? = Memory.slice dmem (l.off b) (l.len b) := by
  obtain ⟨hl, hk⟩ := mapM_some h
  refine ⟨by simpa using hl, fun b hb => ?_⟩
  rw [hk b, List.getElem?_range hb]; rfl

/-- R104, R105: what `ILV` computes comes from the generator, the slices and the EC bytes of each slice. -/
theorem encodeBlocks_some {exp log dmem : Memory} {n : Nat} {l : Layout} {r : Interleaved}
    (h : encodeBlocks exp log dmem n l = some r) :
    generator exp log l.ecb = some r.gen ∧
    ∃ slices ecs, dataSlices dmem n l = some slices ∧ slices.mapM (fun d => remainder exp log d r.gen) = some ecs ∧
      r.ec = ecs.flatten ∧ r.out = interleave slices ecs l.maxData l.ecb := by
  unfold encodeBlocks at h
  split at h
  · next gen slices hg hs =>
    split at h
    · next ecs he => cases h; exact ⟨hg, slices, ecs, hs, he, rfl, rfl⟩
    · cases h
  · cases h

end Sys2Proof.Machine
end

