-- ==== Sys2Proof/Laws/Memory.lean ====
section
/-! SUPPORT. The laws of the byte spaces: a read after a write, reads of a buffer replaced as a whole, and that every
operation keeps the canonical form. -/

namespace Sys2Proof.Machine.Memory

@[simp] theorem read_nil (a : Nat) : read [] a = none := rfl

theorem read_cons (b : Nat) (v : Byte) (m : Memory) (a : Nat) :
    read ((b, v) :: m) a = if b = a then some v else read m a := rfl

/-- A read after a write: the byte written at its index, and every other index as before. -/
theorem read_write (m : Memory) (a : Nat) (v : Byte) (c : Nat) :
    read (write m a v) c = if c = a then some v else read m c := by
  induction m with
  | nil => simp [write, read, eq_comm]
  | cons e m ih =>
    obtain ⟨b, w⟩ := e
    simp only [write]
    split
    · simp only [read]; grind
    · split
      · simp only [read]; grind
      · simp only [read, ih]; grind

theorem read_write_same (m : Memory) (a : Nat) (v : Byte) : read (write m a v) a = some v := by
  simp [read_write]

theorem read_write_other (m : Memory) {a c : Nat} (v : Byte) (h : c ≠ a) : read (write m a v) c = read m c := by
  simp [read_write, h]

theorem read_fillFrom (bs : List Byte) (a c : Nat) :
    read (fillFrom a bs) c = if a ≤ c then bs[c - a]? else none := by
  induction bs generalizing a with
  | nil => simp [fillFrom]
  | cons v bs ih =>
    rw [fillFrom, read_cons, ih]
    by_cases h : a = c
    · simp [h]
    · by_cases h2 : a ≤ c
      · obtain ⟨k, rfl⟩ : ∃ k, c = a + 1 + k := ⟨c - (a + 1), by omega⟩
        have e1 : a + 1 + k - a = k + 1 := by omega
        simp [h, h2, e1]
      · have h3 : ¬ a + 1 ≤ c := by omega
        simp [h, h2, h3]

/-- A buffer replaced as a whole holds its bytes from index 0, and no value beyond them. -/
@[simp] theorem read_fill (bs : List Byte) (c : Nat) : read (fill bs) c = bs[c]? := by
  simp [fill, read_fillFrom]

theorem map_fst_fillFrom (bs : List Byte) (a : Nat) : (fillFrom a bs).map Prod.fst = List.range' a bs.length := by
  induction bs generalizing a with
  | nil => rfl
  | cons v bs ih => simp [fillFrom, ih, List.range'_succ]

theorem map_fst_fill (bs : List Byte) : (fill bs).map Prod.fst = List.range bs.length := by
  simp [fill, map_fst_fillFrom, List.range_eq_range']

theorem risesFrom_mono {a b : Nat} (h : a ≤ b) : ∀ {m : Memory}, risesFrom b m = true → risesFrom a m = true
  | [], _ => rfl
  | (c, _) :: m, hm => by
    simp only [risesFrom, Bool.and_eq_true, decide_eq_true_eq] at hm ⊢
    exact ⟨by omega, hm.2⟩

theorem risesFrom_fillFrom (bs : List Byte) (a : Nat) : risesFrom a (fillFrom a bs) = true := by
  induction bs generalizing a with
  | nil => rfl
  | cons v bs ih => simp [fillFrom, risesFrom, ih]

theorem risesFrom_write {a : Nat} (v : Byte) :
    ∀ {m : Memory} {k : Nat}, k ≤ a → risesFrom k m = true → risesFrom k (write m a v) = true
  | [], k, hk, _ => by simp [write, risesFrom, hk]
  | (b, w) :: m, k, hk, hm => by
    simp only [risesFrom, Bool.and_eq_true, decide_eq_true_eq] at hm
    simp only [write]
    split
    · next h => simp [risesFrom, hk, hm.2]; omega
    · split
      · next h => subst h; simp [risesFrom, hk, hm.2]
      · next h1 h2 =>
        have := risesFrom_write v (a := a) (k := b + 1) (by omega) hm.2
        simp [risesFrom, hm.1, this]

/-- The empty space is in canonical form. -/
@[simp] theorem wf_nil : wf [] = true := rfl

/-- A write keeps the canonical form. -/
theorem wf_write {m : Memory} (h : wf m = true) (a : Nat) (v : Byte) : wf (write m a v) = true :=
  risesFrom_write v (Nat.zero_le a) h

/-- A buffer replaced as a whole is in canonical form. -/
@[simp] theorem wf_fill (bs : List Byte) : wf (fill bs) = true := risesFrom_fillFrom bs 0

/-- The tables `GFINIT` builds are in canonical form, whatever they are built on. -/
theorem wf_buildTablesFrom (n : Nat) :
    ∀ (i : Nat) (x : Byte) (t : Memory × Memory), wf t.1 = true → wf t.2 = true →
      wf (buildTablesFrom n i x t).1 = true ∧ wf (buildTablesFrom n i x t).2 = true := by
  induction n with
  | zero => intro i x t h1 h2; exact ⟨h1, h2⟩
  | succ n ih => intro i x t h1 h2; exact ih _ _ _ (wf_write h1 _ _) (wf_write h2 _ _)

theorem wf_builtTables : wf builtTables.1 = true ∧ wf builtTables.2 = true :=
  wf_buildTablesFrom 255 0 0x01#8 ([], []) rfl rfl

end Sys2Proof.Machine.Memory

namespace Sys2Proof.Machine

/-- Every space of the reset state is in canonical form. -/
theorem reset_canonical (sp : Space) : Memory.wf (State.reset.space sp) = true := by cases sp <;> rfl

end Sys2Proof.Machine
end

