-- ==== Sys2Proof/Machine/Sizes.lean ====
section
/-! DEFINITION. The machine as a function of the four size parameters (00_scope.md R3). -/

namespace Sys2Proof.Machine

/-- R3: the engine built with the sizes `p`. Its step is the one step of the model, which reads the sizes from the state
(assumption log entry 3); `Sys2Proof.core` is this machine with the decided values. -/
def coreOf (p : Config.Params) : Host.Core where
  State := State
  Fault := Fault
  Refusal := Refusal
  step := step
  reset := State.resetOf p

end Sys2Proof.Machine
end

