-- ==== Sys2Proof/Laws/State.lean ====
section
/-! SUPPORT. One lemma per field per named update of the state, each true by rfl: what an update writes, and that it leaves
every other field alone. -/

namespace Sys2Proof.Machine.State

variable (s : State)

/-! ### setReg -/

@[simp] theorem setReg_g (r : Reg) (v : Byte) : (s.setReg r v).g = s.g.set r.toNat v r.isLt := rfl
@[simp] theorem setReg_cfgT (r : Reg) (v : Byte) : (s.setReg r v).cfgT = s.cfgT := rfl
@[simp] theorem setReg_cfgD (r : Reg) (v : Byte) : (s.setReg r v).cfgD = s.cfgD := rfl
@[simp] theorem setReg_cfgN (r : Reg) (v : Byte) : (s.setReg r v).cfgN = s.cfgN := rfl
@[simp] theorem setReg_tv (r : Reg) (v : Byte) : (s.setReg r v).tv = s.tv := rfl
@[simp] theorem setReg_fault (r : Reg) (v : Byte) : (s.setReg r v).fault = s.fault := rfl
@[simp] theorem setReg_lv (r : Reg) (v : Byte) : (s.setReg r v).lv = s.lv := rfl
@[simp] theorem setReg_cause (r : Reg) (v : Byte) : (s.setReg r v).cause = s.cause := rfl
@[simp] theorem setReg_fcmd (r : Reg) (v : Byte) : (s.setReg r v).fcmd = s.fcmd := rfl
@[simp] theorem setReg_fseq (r : Reg) (v : Byte) : (s.setReg r v).fseq = s.fseq := rfl
@[simp] theorem setReg_cseq (r : Reg) (v : Byte) : (s.setReg r v).cseq = s.cseq := rfl
@[simp] theorem setReg_dlen (r : Reg) (v : Byte) : (s.setReg r v).dlen = s.dlen := rfl
@[simp] theorem setReg_elen (r : Reg) (v : Byte) : (s.setReg r v).elen = s.elen := rfl
@[simp] theorem setReg_olen (r : Reg) (v : Byte) : (s.setReg r v).olen = s.olen := rfl
@[simp] theorem setReg_optr (r : Reg) (v : Byte) : (s.setReg r v).optr = s.optr := rfl
@[simp] theorem setReg_gdeg (r : Reg) (v : Byte) : (s.setReg r v).gdeg = s.gdeg := rfl
@[simp] theorem setReg_g1b (r : Reg) (v : Byte) : (s.setReg r v).g1b = s.g1b := rfl
@[simp] theorem setReg_g2b (r : Reg) (v : Byte) : (s.setReg r v).g2b = s.g2b := rfl
@[simp] theorem setReg_g1t (r : Reg) (v : Byte) : (s.setReg r v).g1t = s.g1t := rfl
@[simp] theorem setReg_g2t (r : Reg) (v : Byte) : (s.setReg r v).g2t = s.g2t := rfl
@[simp] theorem setReg_g1d (r : Reg) (v : Byte) : (s.setReg r v).g1d = s.g1d := rfl
@[simp] theorem setReg_g2d (r : Reg) (v : Byte) : (s.setReg r v).g2d = s.g2d := rfl
@[simp] theorem setReg_ecb (r : Reg) (v : Byte) : (s.setReg r v).ecb = s.ecb := rfl
@[simp] theorem setReg_exp (r : Reg) (v : Byte) : (s.setReg r v).exp = s.exp := rfl
@[simp] theorem setReg_log (r : Reg) (v : Byte) : (s.setReg r v).log = s.log := rfl
@[simp] theorem setReg_dmem (r : Reg) (v : Byte) : (s.setReg r v).dmem = s.dmem := rfl
@[simp] theorem setReg_emem (r : Reg) (v : Byte) : (s.setReg r v).emem = s.emem := rfl
@[simp] theorem setReg_omem (r : Reg) (v : Byte) : (s.setReg r v).omem = s.omem := rfl
@[simp] theorem setReg_gen (r : Reg) (v : Byte) : (s.setReg r v).gen = s.gen := rfl
@[simp] theorem setReg_sizes (r : Reg) (v : Byte) : (s.setReg r v).sizes = s.sizes := rfl
@[simp] theorem setReg_input (r : Reg) (v : Byte) : (s.setReg r v).input = s.input := rfl

/-! ### pushData -/

@[simp] theorem pushData_g (v : Byte) : (s.pushData v).g = s.g := rfl
@[simp] theorem pushData_cfgT (v : Byte) : (s.pushData v).cfgT = s.cfgT := rfl
@[simp] theorem pushData_cfgD (v : Byte) : (s.pushData v).cfgD = s.cfgD := rfl
@[simp] theorem pushData_cfgN (v : Byte) : (s.pushData v).cfgN = s.cfgN := rfl
@[simp] theorem pushData_tv (v : Byte) : (s.pushData v).tv = s.tv := rfl
@[simp] theorem pushData_fault (v : Byte) : (s.pushData v).fault = s.fault := rfl
@[simp] theorem pushData_lv (v : Byte) : (s.pushData v).lv = s.lv := rfl
@[simp] theorem pushData_cause (v : Byte) : (s.pushData v).cause = s.cause := rfl
@[simp] theorem pushData_fcmd (v : Byte) : (s.pushData v).fcmd = s.fcmd := rfl
@[simp] theorem pushData_fseq (v : Byte) : (s.pushData v).fseq = s.fseq := rfl
@[simp] theorem pushData_cseq (v : Byte) : (s.pushData v).cseq = s.cseq := rfl
@[simp] theorem pushData_dlen (v : Byte) : (s.pushData v).dlen = s.dlen + 1 := rfl
@[simp] theorem pushData_elen (v : Byte) : (s.pushData v).elen = s.elen := rfl
@[simp] theorem pushData_olen (v : Byte) : (s.pushData v).olen = s.olen := rfl
@[simp] theorem pushData_optr (v : Byte) : (s.pushData v).optr = s.optr := rfl
@[simp] theorem pushData_gdeg (v : Byte) : (s.pushData v).gdeg = s.gdeg := rfl
@[simp] theorem pushData_g1b (v : Byte) : (s.pushData v).g1b = s.g1b := rfl
@[simp] theorem pushData_g2b (v : Byte) : (s.pushData v).g2b = s.g2b := rfl
@[simp] theorem pushData_g1t (v : Byte) : (s.pushData v).g1t = s.g1t := rfl
@[simp] theorem pushData_g2t (v : Byte) : (s.pushData v).g2t = s.g2t := rfl
@[simp] theorem pushData_g1d (v : Byte) : (s.pushData v).g1d = s.g1d := rfl
@[simp] theorem pushData_g2d (v : Byte) : (s.pushData v).g2d = s.g2d := rfl
@[simp] theorem pushData_ecb (v : Byte) : (s.pushData v).ecb = s.ecb := rfl
@[simp] theorem pushData_exp (v : Byte) : (s.pushData v).exp = s.exp := rfl
@[simp] theorem pushData_log (v : Byte) : (s.pushData v).log = s.log := rfl
@[simp] theorem pushData_dmem (v : Byte) : (s.pushData v).dmem = Memory.write s.dmem s.dlen.toNat v := rfl
@[simp] theorem pushData_emem (v : Byte) : (s.pushData v).emem = s.emem := rfl
@[simp] theorem pushData_omem (v : Byte) : (s.pushData v).omem = s.omem := rfl
@[simp] theorem pushData_gen (v : Byte) : (s.pushData v).gen = s.gen := rfl
@[simp] theorem pushData_sizes (v : Byte) : (s.pushData v).sizes = s.sizes := rfl
@[simp] theorem pushData_input (v : Byte) : (s.pushData v).input = s.input := rfl

/-! ### setGenerator -/

@[simp] theorem setGenerator_g (c : List Byte) (r : Nat) : (s.setGenerator c r).g = s.g := rfl
@[simp] theorem setGenerator_cfgT (c : List Byte) (r : Nat) : (s.setGenerator c r).cfgT = s.cfgT := rfl
@[simp] theorem setGenerator_cfgD (c : List Byte) (r : Nat) : (s.setGenerator c r).cfgD = s.cfgD := rfl
@[simp] theorem setGenerator_cfgN (c : List Byte) (r : Nat) : (s.setGenerator c r).cfgN = s.cfgN := rfl
@[simp] theorem setGenerator_tv (c : List Byte) (r : Nat) : (s.setGenerator c r).tv = s.tv := rfl
@[simp] theorem setGenerator_fault (c : List Byte) (r : Nat) : (s.setGenerator c r).fault = s.fault := rfl
@[simp] theorem setGenerator_lv (c : List Byte) (r : Nat) : (s.setGenerator c r).lv = s.lv := rfl
@[simp] theorem setGenerator_cause (c : List Byte) (r : Nat) : (s.setGenerator c r).cause = s.cause := rfl
@[simp] theorem setGenerator_fcmd (c : List Byte) (r : Nat) : (s.setGenerator c r).fcmd = s.fcmd := rfl
@[simp] theorem setGenerator_fseq (c : List Byte) (r : Nat) : (s.setGenerator c r).fseq = s.fseq := rfl
@[simp] theorem setGenerator_cseq (c : List Byte) (r : Nat) : (s.setGenerator c r).cseq = s.cseq := rfl
@[simp] theorem setGenerator_dlen (c : List Byte) (r : Nat) : (s.setGenerator c r).dlen = s.dlen := rfl
@[simp] theorem setGenerator_elen (c : List Byte) (r : Nat) : (s.setGenerator c r).elen = s.elen := rfl
@[simp] theorem setGenerator_olen (c : List Byte) (r : Nat) : (s.setGenerator c r).olen = s.olen := rfl
@[simp] theorem setGenerator_optr (c : List Byte) (r : Nat) : (s.setGenerator c r).optr = s.optr := rfl
@[simp] theorem setGenerator_gdeg (c : List Byte) (r : Nat) : (s.setGenerator c r).gdeg = BitVec.ofNat 16 r := rfl
@[simp] theorem setGenerator_g1b (c : List Byte) (r : Nat) : (s.setGenerator c r).g1b = s.g1b := rfl
@[simp] theorem setGenerator_g2b (c : List Byte) (r : Nat) : (s.setGenerator c r).g2b = s.g2b := rfl
@[simp] theorem setGenerator_g1t (c : List Byte) (r : Nat) : (s.setGenerator c r).g1t = s.g1t := rfl
@[simp] theorem setGenerator_g2t (c : List Byte) (r : Nat) : (s.setGenerator c r).g2t = s.g2t := rfl
@[simp] theorem setGenerator_g1d (c : List Byte) (r : Nat) : (s.setGenerator c r).g1d = s.g1d := rfl
@[simp] theorem setGenerator_g2d (c : List Byte) (r : Nat) : (s.setGenerator c r).g2d = s.g2d := rfl
@[simp] theorem setGenerator_ecb (c : List Byte) (r : Nat) : (s.setGenerator c r).ecb = s.ecb := rfl
@[simp] theorem setGenerator_exp (c : List Byte) (r : Nat) : (s.setGenerator c r).exp = s.exp := rfl
@[simp] theorem setGenerator_log (c : List Byte) (r : Nat) : (s.setGenerator c r).log = s.log := rfl
@[simp] theorem setGenerator_dmem (c : List Byte) (r : Nat) : (s.setGenerator c r).dmem = s.dmem := rfl
@[simp] theorem setGenerator_emem (c : List Byte) (r : Nat) : (s.setGenerator c r).emem = s.emem := rfl
@[simp] theorem setGenerator_omem (c : List Byte) (r : Nat) : (s.setGenerator c r).omem = s.omem := rfl
@[simp] theorem setGenerator_gen (c : List Byte) (r : Nat) : (s.setGenerator c r).gen = Memory.fill c := rfl
@[simp] theorem setGenerator_sizes (c : List Byte) (r : Nat) : (s.setGenerator c r).sizes = s.sizes := rfl
@[simp] theorem setGenerator_input (c : List Byte) (r : Nat) : (s.setGenerator c r).input = s.input := rfl

/-! ### setEc -/

@[simp] theorem setEc_g (e : List Byte) (n : Nat) : (s.setEc e n).g = s.g := rfl
@[simp] theorem setEc_cfgT (e : List Byte) (n : Nat) : (s.setEc e n).cfgT = s.cfgT := rfl
@[simp] theorem setEc_cfgD (e : List Byte) (n : Nat) : (s.setEc e n).cfgD = s.cfgD := rfl
@[simp] theorem setEc_cfgN (e : List Byte) (n : Nat) : (s.setEc e n).cfgN = s.cfgN := rfl
@[simp] theorem setEc_tv (e : List Byte) (n : Nat) : (s.setEc e n).tv = s.tv := rfl
@[simp] theorem setEc_fault (e : List Byte) (n : Nat) : (s.setEc e n).fault = s.fault := rfl
@[simp] theorem setEc_lv (e : List Byte) (n : Nat) : (s.setEc e n).lv = s.lv := rfl
@[simp] theorem setEc_cause (e : List Byte) (n : Nat) : (s.setEc e n).cause = s.cause := rfl
@[simp] theorem setEc_fcmd (e : List Byte) (n : Nat) : (s.setEc e n).fcmd = s.fcmd := rfl
@[simp] theorem setEc_fseq (e : List Byte) (n : Nat) : (s.setEc e n).fseq = s.fseq := rfl
@[simp] theorem setEc_cseq (e : List Byte) (n : Nat) : (s.setEc e n).cseq = s.cseq := rfl
@[simp] theorem setEc_dlen (e : List Byte) (n : Nat) : (s.setEc e n).dlen = s.dlen := rfl
@[simp] theorem setEc_elen (e : List Byte) (n : Nat) : (s.setEc e n).elen = BitVec.ofNat 16 n := rfl
@[simp] theorem setEc_olen (e : List Byte) (n : Nat) : (s.setEc e n).olen = s.olen := rfl
@[simp] theorem setEc_optr (e : List Byte) (n : Nat) : (s.setEc e n).optr = s.optr := rfl
@[simp] theorem setEc_gdeg (e : List Byte) (n : Nat) : (s.setEc e n).gdeg = s.gdeg := rfl
@[simp] theorem setEc_g1b (e : List Byte) (n : Nat) : (s.setEc e n).g1b = s.g1b := rfl
@[simp] theorem setEc_g2b (e : List Byte) (n : Nat) : (s.setEc e n).g2b = s.g2b := rfl
@[simp] theorem setEc_g1t (e : List Byte) (n : Nat) : (s.setEc e n).g1t = s.g1t := rfl
@[simp] theorem setEc_g2t (e : List Byte) (n : Nat) : (s.setEc e n).g2t = s.g2t := rfl
@[simp] theorem setEc_g1d (e : List Byte) (n : Nat) : (s.setEc e n).g1d = s.g1d := rfl
@[simp] theorem setEc_g2d (e : List Byte) (n : Nat) : (s.setEc e n).g2d = s.g2d := rfl
@[simp] theorem setEc_ecb (e : List Byte) (n : Nat) : (s.setEc e n).ecb = s.ecb := rfl
@[simp] theorem setEc_exp (e : List Byte) (n : Nat) : (s.setEc e n).exp = s.exp := rfl
@[simp] theorem setEc_log (e : List Byte) (n : Nat) : (s.setEc e n).log = s.log := rfl
@[simp] theorem setEc_dmem (e : List Byte) (n : Nat) : (s.setEc e n).dmem = s.dmem := rfl
@[simp] theorem setEc_emem (e : List Byte) (n : Nat) : (s.setEc e n).emem = Memory.fill e := rfl
@[simp] theorem setEc_omem (e : List Byte) (n : Nat) : (s.setEc e n).omem = s.omem := rfl
@[simp] theorem setEc_gen (e : List Byte) (n : Nat) : (s.setEc e n).gen = s.gen := rfl
@[simp] theorem setEc_sizes (e : List Byte) (n : Nat) : (s.setEc e n).sizes = s.sizes := rfl
@[simp] theorem setEc_input (e : List Byte) (n : Nat) : (s.setEc e n).input = s.input := rfl

/-! ### setOutput -/

@[simp] theorem setOutput_g (o : List Byte) (n : Nat) : (s.setOutput o n).g = s.g := rfl
@[simp] theorem setOutput_cfgT (o : List Byte) (n : Nat) : (s.setOutput o n).cfgT = s.cfgT := rfl
@[simp] theorem setOutput_cfgD (o : List Byte) (n : Nat) : (s.setOutput o n).cfgD = s.cfgD := rfl
@[simp] theorem setOutput_cfgN (o : List Byte) (n : Nat) : (s.setOutput o n).cfgN = s.cfgN := rfl
@[simp] theorem setOutput_tv (o : List Byte) (n : Nat) : (s.setOutput o n).tv = s.tv := rfl
@[simp] theorem setOutput_fault (o : List Byte) (n : Nat) : (s.setOutput o n).fault = s.fault := rfl
@[simp] theorem setOutput_lv (o : List Byte) (n : Nat) : (s.setOutput o n).lv = s.lv := rfl
@[simp] theorem setOutput_cause (o : List Byte) (n : Nat) : (s.setOutput o n).cause = s.cause := rfl
@[simp] theorem setOutput_fcmd (o : List Byte) (n : Nat) : (s.setOutput o n).fcmd = s.fcmd := rfl
@[simp] theorem setOutput_fseq (o : List Byte) (n : Nat) : (s.setOutput o n).fseq = s.fseq := rfl
@[simp] theorem setOutput_cseq (o : List Byte) (n : Nat) : (s.setOutput o n).cseq = s.cseq := rfl
@[simp] theorem setOutput_dlen (o : List Byte) (n : Nat) : (s.setOutput o n).dlen = s.dlen := rfl
@[simp] theorem setOutput_elen (o : List Byte) (n : Nat) : (s.setOutput o n).elen = s.elen := rfl
@[simp] theorem setOutput_olen (o : List Byte) (n : Nat) : (s.setOutput o n).olen = BitVec.ofNat 16 n := rfl
@[simp] theorem setOutput_optr (o : List Byte) (n : Nat) : (s.setOutput o n).optr = 0 := rfl
@[simp] theorem setOutput_gdeg (o : List Byte) (n : Nat) : (s.setOutput o n).gdeg = s.gdeg := rfl
@[simp] theorem setOutput_g1b (o : List Byte) (n : Nat) : (s.setOutput o n).g1b = s.g1b := rfl
@[simp] theorem setOutput_g2b (o : List Byte) (n : Nat) : (s.setOutput o n).g2b = s.g2b := rfl
@[simp] theorem setOutput_g1t (o : List Byte) (n : Nat) : (s.setOutput o n).g1t = s.g1t := rfl
@[simp] theorem setOutput_g2t (o : List Byte) (n : Nat) : (s.setOutput o n).g2t = s.g2t := rfl
@[simp] theorem setOutput_g1d (o : List Byte) (n : Nat) : (s.setOutput o n).g1d = s.g1d := rfl
@[simp] theorem setOutput_g2d (o : List Byte) (n : Nat) : (s.setOutput o n).g2d = s.g2d := rfl
@[simp] theorem setOutput_ecb (o : List Byte) (n : Nat) : (s.setOutput o n).ecb = s.ecb := rfl
@[simp] theorem setOutput_exp (o : List Byte) (n : Nat) : (s.setOutput o n).exp = s.exp := rfl
@[simp] theorem setOutput_log (o : List Byte) (n : Nat) : (s.setOutput o n).log = s.log := rfl
@[simp] theorem setOutput_dmem (o : List Byte) (n : Nat) : (s.setOutput o n).dmem = s.dmem := rfl
@[simp] theorem setOutput_emem (o : List Byte) (n : Nat) : (s.setOutput o n).emem = s.emem := rfl
@[simp] theorem setOutput_omem (o : List Byte) (n : Nat) : (s.setOutput o n).omem = Memory.fill o := rfl
@[simp] theorem setOutput_gen (o : List Byte) (n : Nat) : (s.setOutput o n).gen = s.gen := rfl
@[simp] theorem setOutput_sizes (o : List Byte) (n : Nat) : (s.setOutput o n).sizes = s.sizes := rfl
@[simp] theorem setOutput_input (o : List Byte) (n : Nat) : (s.setOutput o n).input = s.input := rfl

/-! ### advanceOptr -/

@[simp] theorem advanceOptr_g : (s.advanceOptr).g = s.g := rfl
@[simp] theorem advanceOptr_cfgT : (s.advanceOptr).cfgT = s.cfgT := rfl
@[simp] theorem advanceOptr_cfgD : (s.advanceOptr).cfgD = s.cfgD := rfl
@[simp] theorem advanceOptr_cfgN : (s.advanceOptr).cfgN = s.cfgN := rfl
@[simp] theorem advanceOptr_tv : (s.advanceOptr).tv = s.tv := rfl
@[simp] theorem advanceOptr_fault : (s.advanceOptr).fault = s.fault := rfl
@[simp] theorem advanceOptr_lv : (s.advanceOptr).lv = s.lv := rfl
@[simp] theorem advanceOptr_cause : (s.advanceOptr).cause = s.cause := rfl
@[simp] theorem advanceOptr_fcmd : (s.advanceOptr).fcmd = s.fcmd := rfl
@[simp] theorem advanceOptr_fseq : (s.advanceOptr).fseq = s.fseq := rfl
@[simp] theorem advanceOptr_cseq : (s.advanceOptr).cseq = s.cseq := rfl
@[simp] theorem advanceOptr_dlen : (s.advanceOptr).dlen = s.dlen := rfl
@[simp] theorem advanceOptr_elen : (s.advanceOptr).elen = s.elen := rfl
@[simp] theorem advanceOptr_olen : (s.advanceOptr).olen = s.olen := rfl
@[simp] theorem advanceOptr_optr : (s.advanceOptr).optr = s.optr + 1 := rfl
@[simp] theorem advanceOptr_gdeg : (s.advanceOptr).gdeg = s.gdeg := rfl
@[simp] theorem advanceOptr_g1b : (s.advanceOptr).g1b = s.g1b := rfl
@[simp] theorem advanceOptr_g2b : (s.advanceOptr).g2b = s.g2b := rfl
@[simp] theorem advanceOptr_g1t : (s.advanceOptr).g1t = s.g1t := rfl
@[simp] theorem advanceOptr_g2t : (s.advanceOptr).g2t = s.g2t := rfl
@[simp] theorem advanceOptr_g1d : (s.advanceOptr).g1d = s.g1d := rfl
@[simp] theorem advanceOptr_g2d : (s.advanceOptr).g2d = s.g2d := rfl
@[simp] theorem advanceOptr_ecb : (s.advanceOptr).ecb = s.ecb := rfl
@[simp] theorem advanceOptr_exp : (s.advanceOptr).exp = s.exp := rfl
@[simp] theorem advanceOptr_log : (s.advanceOptr).log = s.log := rfl
@[simp] theorem advanceOptr_dmem : (s.advanceOptr).dmem = s.dmem := rfl
@[simp] theorem advanceOptr_emem : (s.advanceOptr).emem = s.emem := rfl
@[simp] theorem advanceOptr_omem : (s.advanceOptr).omem = s.omem := rfl
@[simp] theorem advanceOptr_gen : (s.advanceOptr).gen = s.gen := rfl
@[simp] theorem advanceOptr_sizes : (s.advanceOptr).sizes = s.sizes := rfl
@[simp] theorem advanceOptr_input : (s.advanceOptr).input = s.input := rfl

/-! ### setCfgT -/

@[simp] theorem setCfgT_g (v : BitVec 16) : (s.setCfgT v).g = s.g := rfl
@[simp] theorem setCfgT_cfgT (v : BitVec 16) : (s.setCfgT v).cfgT = v := rfl
@[simp] theorem setCfgT_cfgD (v : BitVec 16) : (s.setCfgT v).cfgD = s.cfgD := rfl
@[simp] theorem setCfgT_cfgN (v : BitVec 16) : (s.setCfgT v).cfgN = s.cfgN := rfl
@[simp] theorem setCfgT_tv (v : BitVec 16) : (s.setCfgT v).tv = s.tv := rfl
@[simp] theorem setCfgT_fault (v : BitVec 16) : (s.setCfgT v).fault = s.fault := rfl
@[simp] theorem setCfgT_lv (v : BitVec 16) : (s.setCfgT v).lv = false := rfl
@[simp] theorem setCfgT_cause (v : BitVec 16) : (s.setCfgT v).cause = s.cause := rfl
@[simp] theorem setCfgT_fcmd (v : BitVec 16) : (s.setCfgT v).fcmd = s.fcmd := rfl
@[simp] theorem setCfgT_fseq (v : BitVec 16) : (s.setCfgT v).fseq = s.fseq := rfl
@[simp] theorem setCfgT_cseq (v : BitVec 16) : (s.setCfgT v).cseq = s.cseq := rfl
@[simp] theorem setCfgT_dlen (v : BitVec 16) : (s.setCfgT v).dlen = s.dlen := rfl
@[simp] theorem setCfgT_elen (v : BitVec 16) : (s.setCfgT v).elen = s.elen := rfl
@[simp] theorem setCfgT_olen (v : BitVec 16) : (s.setCfgT v).olen = s.olen := rfl
@[simp] theorem setCfgT_optr (v : BitVec 16) : (s.setCfgT v).optr = s.optr := rfl
@[simp] theorem setCfgT_gdeg (v : BitVec 16) : (s.setCfgT v).gdeg = s.gdeg := rfl
@[simp] theorem setCfgT_g1b (v : BitVec 16) : (s.setCfgT v).g1b = s.g1b := rfl
@[simp] theorem setCfgT_g2b (v : BitVec 16) : (s.setCfgT v).g2b = s.g2b := rfl
@[simp] theorem setCfgT_g1t (v : BitVec 16) : (s.setCfgT v).g1t = s.g1t := rfl
@[simp] theorem setCfgT_g2t (v : BitVec 16) : (s.setCfgT v).g2t = s.g2t := rfl
@[simp] theorem setCfgT_g1d (v : BitVec 16) : (s.setCfgT v).g1d = s.g1d := rfl
@[simp] theorem setCfgT_g2d (v : BitVec 16) : (s.setCfgT v).g2d = s.g2d := rfl
@[simp] theorem setCfgT_ecb (v : BitVec 16) : (s.setCfgT v).ecb = s.ecb := rfl
@[simp] theorem setCfgT_exp (v : BitVec 16) : (s.setCfgT v).exp = s.exp := rfl
@[simp] theorem setCfgT_log (v : BitVec 16) : (s.setCfgT v).log = s.log := rfl
@[simp] theorem setCfgT_dmem (v : BitVec 16) : (s.setCfgT v).dmem = s.dmem := rfl
@[simp] theorem setCfgT_emem (v : BitVec 16) : (s.setCfgT v).emem = s.emem := rfl
@[simp] theorem setCfgT_omem (v : BitVec 16) : (s.setCfgT v).omem = s.omem := rfl
@[simp] theorem setCfgT_gen (v : BitVec 16) : (s.setCfgT v).gen = s.gen := rfl
@[simp] theorem setCfgT_sizes (v : BitVec 16) : (s.setCfgT v).sizes = s.sizes := rfl
@[simp] theorem setCfgT_input (v : BitVec 16) : (s.setCfgT v).input = s.input := rfl

/-! ### setCfgD -/

@[simp] theorem setCfgD_g (v : BitVec 16) : (s.setCfgD v).g = s.g := rfl
@[simp] theorem setCfgD_cfgT (v : BitVec 16) : (s.setCfgD v).cfgT = s.cfgT := rfl
@[simp] theorem setCfgD_cfgD (v : BitVec 16) : (s.setCfgD v).cfgD = v := rfl
@[simp] theorem setCfgD_cfgN (v : BitVec 16) : (s.setCfgD v).cfgN = s.cfgN := rfl
@[simp] theorem setCfgD_tv (v : BitVec 16) : (s.setCfgD v).tv = s.tv := rfl
@[simp] theorem setCfgD_fault (v : BitVec 16) : (s.setCfgD v).fault = s.fault := rfl
@[simp] theorem setCfgD_lv (v : BitVec 16) : (s.setCfgD v).lv = false := rfl
@[simp] theorem setCfgD_cause (v : BitVec 16) : (s.setCfgD v).cause = s.cause := rfl
@[simp] theorem setCfgD_fcmd (v : BitVec 16) : (s.setCfgD v).fcmd = s.fcmd := rfl
@[simp] theorem setCfgD_fseq (v : BitVec 16) : (s.setCfgD v).fseq = s.fseq := rfl
@[simp] theorem setCfgD_cseq (v : BitVec 16) : (s.setCfgD v).cseq = s.cseq := rfl
@[simp] theorem setCfgD_dlen (v : BitVec 16) : (s.setCfgD v).dlen = s.dlen := rfl
@[simp] theorem setCfgD_elen (v : BitVec 16) : (s.setCfgD v).elen = s.elen := rfl
@[simp] theorem setCfgD_olen (v : BitVec 16) : (s.setCfgD v).olen = s.olen := rfl
@[simp] theorem setCfgD_optr (v : BitVec 16) : (s.setCfgD v).optr = s.optr := rfl
@[simp] theorem setCfgD_gdeg (v : BitVec 16) : (s.setCfgD v).gdeg = s.gdeg := rfl
@[simp] theorem setCfgD_g1b (v : BitVec 16) : (s.setCfgD v).g1b = s.g1b := rfl
@[simp] theorem setCfgD_g2b (v : BitVec 16) : (s.setCfgD v).g2b = s.g2b := rfl
@[simp] theorem setCfgD_g1t (v : BitVec 16) : (s.setCfgD v).g1t = s.g1t := rfl
@[simp] theorem setCfgD_g2t (v : BitVec 16) : (s.setCfgD v).g2t = s.g2t := rfl
@[simp] theorem setCfgD_g1d (v : BitVec 16) : (s.setCfgD v).g1d = s.g1d := rfl
@[simp] theorem setCfgD_g2d (v : BitVec 16) : (s.setCfgD v).g2d = s.g2d := rfl
@[simp] theorem setCfgD_ecb (v : BitVec 16) : (s.setCfgD v).ecb = s.ecb := rfl
@[simp] theorem setCfgD_exp (v : BitVec 16) : (s.setCfgD v).exp = s.exp := rfl
@[simp] theorem setCfgD_log (v : BitVec 16) : (s.setCfgD v).log = s.log := rfl
@[simp] theorem setCfgD_dmem (v : BitVec 16) : (s.setCfgD v).dmem = s.dmem := rfl
@[simp] theorem setCfgD_emem (v : BitVec 16) : (s.setCfgD v).emem = s.emem := rfl
@[simp] theorem setCfgD_omem (v : BitVec 16) : (s.setCfgD v).omem = s.omem := rfl
@[simp] theorem setCfgD_gen (v : BitVec 16) : (s.setCfgD v).gen = s.gen := rfl
@[simp] theorem setCfgD_sizes (v : BitVec 16) : (s.setCfgD v).sizes = s.sizes := rfl
@[simp] theorem setCfgD_input (v : BitVec 16) : (s.setCfgD v).input = s.input := rfl

/-! ### setCfgN -/

@[simp] theorem setCfgN_g (v : BitVec 16) : (s.setCfgN v).g = s.g := rfl
@[simp] theorem setCfgN_cfgT (v : BitVec 16) : (s.setCfgN v).cfgT = s.cfgT := rfl
@[simp] theorem setCfgN_cfgD (v : BitVec 16) : (s.setCfgN v).cfgD = s.cfgD := rfl
@[simp] theorem setCfgN_cfgN (v : BitVec 16) : (s.setCfgN v).cfgN = v := rfl
@[simp] theorem setCfgN_tv (v : BitVec 16) : (s.setCfgN v).tv = s.tv := rfl
@[simp] theorem setCfgN_fault (v : BitVec 16) : (s.setCfgN v).fault = s.fault := rfl
@[simp] theorem setCfgN_lv (v : BitVec 16) : (s.setCfgN v).lv = false := rfl
@[simp] theorem setCfgN_cause (v : BitVec 16) : (s.setCfgN v).cause = s.cause := rfl
@[simp] theorem setCfgN_fcmd (v : BitVec 16) : (s.setCfgN v).fcmd = s.fcmd := rfl
@[simp] theorem setCfgN_fseq (v : BitVec 16) : (s.setCfgN v).fseq = s.fseq := rfl
@[simp] theorem setCfgN_cseq (v : BitVec 16) : (s.setCfgN v).cseq = s.cseq := rfl
@[simp] theorem setCfgN_dlen (v : BitVec 16) : (s.setCfgN v).dlen = s.dlen := rfl
@[simp] theorem setCfgN_elen (v : BitVec 16) : (s.setCfgN v).elen = s.elen := rfl
@[simp] theorem setCfgN_olen (v : BitVec 16) : (s.setCfgN v).olen = s.olen := rfl
@[simp] theorem setCfgN_optr (v : BitVec 16) : (s.setCfgN v).optr = s.optr := rfl
@[simp] theorem setCfgN_gdeg (v : BitVec 16) : (s.setCfgN v).gdeg = s.gdeg := rfl
@[simp] theorem setCfgN_g1b (v : BitVec 16) : (s.setCfgN v).g1b = s.g1b := rfl
@[simp] theorem setCfgN_g2b (v : BitVec 16) : (s.setCfgN v).g2b = s.g2b := rfl
@[simp] theorem setCfgN_g1t (v : BitVec 16) : (s.setCfgN v).g1t = s.g1t := rfl
@[simp] theorem setCfgN_g2t (v : BitVec 16) : (s.setCfgN v).g2t = s.g2t := rfl
@[simp] theorem setCfgN_g1d (v : BitVec 16) : (s.setCfgN v).g1d = s.g1d := rfl
@[simp] theorem setCfgN_g2d (v : BitVec 16) : (s.setCfgN v).g2d = s.g2d := rfl
@[simp] theorem setCfgN_ecb (v : BitVec 16) : (s.setCfgN v).ecb = s.ecb := rfl
@[simp] theorem setCfgN_exp (v : BitVec 16) : (s.setCfgN v).exp = s.exp := rfl
@[simp] theorem setCfgN_log (v : BitVec 16) : (s.setCfgN v).log = s.log := rfl
@[simp] theorem setCfgN_dmem (v : BitVec 16) : (s.setCfgN v).dmem = s.dmem := rfl
@[simp] theorem setCfgN_emem (v : BitVec 16) : (s.setCfgN v).emem = s.emem := rfl
@[simp] theorem setCfgN_omem (v : BitVec 16) : (s.setCfgN v).omem = s.omem := rfl
@[simp] theorem setCfgN_gen (v : BitVec 16) : (s.setCfgN v).gen = s.gen := rfl
@[simp] theorem setCfgN_sizes (v : BitVec 16) : (s.setCfgN v).sizes = s.sizes := rfl
@[simp] theorem setCfgN_input (v : BitVec 16) : (s.setCfgN v).input = s.input := rfl

/-! ### setTables -/

@[simp] theorem setTables_g (e l : Memory) : (s.setTables e l).g = s.g := rfl
@[simp] theorem setTables_cfgT (e l : Memory) : (s.setTables e l).cfgT = s.cfgT := rfl
@[simp] theorem setTables_cfgD (e l : Memory) : (s.setTables e l).cfgD = s.cfgD := rfl
@[simp] theorem setTables_cfgN (e l : Memory) : (s.setTables e l).cfgN = s.cfgN := rfl
@[simp] theorem setTables_tv (e l : Memory) : (s.setTables e l).tv = true := rfl
@[simp] theorem setTables_fault (e l : Memory) : (s.setTables e l).fault = s.fault := rfl
@[simp] theorem setTables_lv (e l : Memory) : (s.setTables e l).lv = s.lv := rfl
@[simp] theorem setTables_cause (e l : Memory) : (s.setTables e l).cause = s.cause := rfl
@[simp] theorem setTables_fcmd (e l : Memory) : (s.setTables e l).fcmd = s.fcmd := rfl
@[simp] theorem setTables_fseq (e l : Memory) : (s.setTables e l).fseq = s.fseq := rfl
@[simp] theorem setTables_cseq (e l : Memory) : (s.setTables e l).cseq = s.cseq := rfl
@[simp] theorem setTables_dlen (e l : Memory) : (s.setTables e l).dlen = s.dlen := rfl
@[simp] theorem setTables_elen (e l : Memory) : (s.setTables e l).elen = s.elen := rfl
@[simp] theorem setTables_olen (e l : Memory) : (s.setTables e l).olen = s.olen := rfl
@[simp] theorem setTables_optr (e l : Memory) : (s.setTables e l).optr = s.optr := rfl
@[simp] theorem setTables_gdeg (e l : Memory) : (s.setTables e l).gdeg = s.gdeg := rfl
@[simp] theorem setTables_g1b (e l : Memory) : (s.setTables e l).g1b = s.g1b := rfl
@[simp] theorem setTables_g2b (e l : Memory) : (s.setTables e l).g2b = s.g2b := rfl
@[simp] theorem setTables_g1t (e l : Memory) : (s.setTables e l).g1t = s.g1t := rfl
@[simp] theorem setTables_g2t (e l : Memory) : (s.setTables e l).g2t = s.g2t := rfl
@[simp] theorem setTables_g1d (e l : Memory) : (s.setTables e l).g1d = s.g1d := rfl
@[simp] theorem setTables_g2d (e l : Memory) : (s.setTables e l).g2d = s.g2d := rfl
@[simp] theorem setTables_ecb (e l : Memory) : (s.setTables e l).ecb = s.ecb := rfl
@[simp] theorem setTables_exp (e l : Memory) : (s.setTables e l).exp = e := rfl
@[simp] theorem setTables_log (e l : Memory) : (s.setTables e l).log = l := rfl
@[simp] theorem setTables_dmem (e l : Memory) : (s.setTables e l).dmem = s.dmem := rfl
@[simp] theorem setTables_emem (e l : Memory) : (s.setTables e l).emem = s.emem := rfl
@[simp] theorem setTables_omem (e l : Memory) : (s.setTables e l).omem = s.omem := rfl
@[simp] theorem setTables_gen (e l : Memory) : (s.setTables e l).gen = s.gen := rfl
@[simp] theorem setTables_sizes (e l : Memory) : (s.setTables e l).sizes = s.sizes := rfl
@[simp] theorem setTables_input (e l : Memory) : (s.setTables e l).input = s.input := rfl

/-! ### dropTables -/

@[simp] theorem dropTables_g : (s.dropTables).g = s.g := rfl
@[simp] theorem dropTables_cfgT : (s.dropTables).cfgT = s.cfgT := rfl
@[simp] theorem dropTables_cfgD : (s.dropTables).cfgD = s.cfgD := rfl
@[simp] theorem dropTables_cfgN : (s.dropTables).cfgN = s.cfgN := rfl
@[simp] theorem dropTables_tv : (s.dropTables).tv = false := rfl
@[simp] theorem dropTables_fault : (s.dropTables).fault = s.fault := rfl
@[simp] theorem dropTables_lv : (s.dropTables).lv = s.lv := rfl
@[simp] theorem dropTables_cause : (s.dropTables).cause = s.cause := rfl
@[simp] theorem dropTables_fcmd : (s.dropTables).fcmd = s.fcmd := rfl
@[simp] theorem dropTables_fseq : (s.dropTables).fseq = s.fseq := rfl
@[simp] theorem dropTables_cseq : (s.dropTables).cseq = s.cseq := rfl
@[simp] theorem dropTables_dlen : (s.dropTables).dlen = s.dlen := rfl
@[simp] theorem dropTables_elen : (s.dropTables).elen = s.elen := rfl
@[simp] theorem dropTables_olen : (s.dropTables).olen = s.olen := rfl
@[simp] theorem dropTables_optr : (s.dropTables).optr = s.optr := rfl
@[simp] theorem dropTables_gdeg : (s.dropTables).gdeg = s.gdeg := rfl
@[simp] theorem dropTables_g1b : (s.dropTables).g1b = s.g1b := rfl
@[simp] theorem dropTables_g2b : (s.dropTables).g2b = s.g2b := rfl
@[simp] theorem dropTables_g1t : (s.dropTables).g1t = s.g1t := rfl
@[simp] theorem dropTables_g2t : (s.dropTables).g2t = s.g2t := rfl
@[simp] theorem dropTables_g1d : (s.dropTables).g1d = s.g1d := rfl
@[simp] theorem dropTables_g2d : (s.dropTables).g2d = s.g2d := rfl
@[simp] theorem dropTables_ecb : (s.dropTables).ecb = s.ecb := rfl
@[simp] theorem dropTables_exp : (s.dropTables).exp = [] := rfl
@[simp] theorem dropTables_log : (s.dropTables).log = [] := rfl
@[simp] theorem dropTables_dmem : (s.dropTables).dmem = s.dmem := rfl
@[simp] theorem dropTables_emem : (s.dropTables).emem = s.emem := rfl
@[simp] theorem dropTables_omem : (s.dropTables).omem = s.omem := rfl
@[simp] theorem dropTables_gen : (s.dropTables).gen = s.gen := rfl
@[simp] theorem dropTables_sizes : (s.dropTables).sizes = s.sizes := rfl
@[simp] theorem dropTables_input : (s.dropTables).input = s.input := rfl

/-! ### complete -/

@[simp] theorem complete_g : (s.complete).g = s.g := rfl
@[simp] theorem complete_cfgT : (s.complete).cfgT = s.cfgT := rfl
@[simp] theorem complete_cfgD : (s.complete).cfgD = s.cfgD := rfl
@[simp] theorem complete_cfgN : (s.complete).cfgN = s.cfgN := rfl
@[simp] theorem complete_tv : (s.complete).tv = s.tv := rfl
@[simp] theorem complete_fault : (s.complete).fault = s.fault := rfl
@[simp] theorem complete_lv : (s.complete).lv = s.lv := rfl
@[simp] theorem complete_cause : (s.complete).cause = s.cause := rfl
@[simp] theorem complete_fcmd : (s.complete).fcmd = s.fcmd := rfl
@[simp] theorem complete_fseq : (s.complete).fseq = s.fseq := rfl
@[simp] theorem complete_cseq : (s.complete).cseq = s.cseq + 1 := rfl
@[simp] theorem complete_dlen : (s.complete).dlen = s.dlen := rfl
@[simp] theorem complete_elen : (s.complete).elen = s.elen := rfl
@[simp] theorem complete_olen : (s.complete).olen = s.olen := rfl
@[simp] theorem complete_optr : (s.complete).optr = s.optr := rfl
@[simp] theorem complete_gdeg : (s.complete).gdeg = s.gdeg := rfl
@[simp] theorem complete_g1b : (s.complete).g1b = s.g1b := rfl
@[simp] theorem complete_g2b : (s.complete).g2b = s.g2b := rfl
@[simp] theorem complete_g1t : (s.complete).g1t = s.g1t := rfl
@[simp] theorem complete_g2t : (s.complete).g2t = s.g2t := rfl
@[simp] theorem complete_g1d : (s.complete).g1d = s.g1d := rfl
@[simp] theorem complete_g2d : (s.complete).g2d = s.g2d := rfl
@[simp] theorem complete_ecb : (s.complete).ecb = s.ecb := rfl
@[simp] theorem complete_exp : (s.complete).exp = s.exp := rfl
@[simp] theorem complete_log : (s.complete).log = s.log := rfl
@[simp] theorem complete_dmem : (s.complete).dmem = s.dmem := rfl
@[simp] theorem complete_emem : (s.complete).emem = s.emem := rfl
@[simp] theorem complete_omem : (s.complete).omem = s.omem := rfl
@[simp] theorem complete_gen : (s.complete).gen = s.gen := rfl
@[simp] theorem complete_sizes : (s.complete).sizes = s.sizes := rfl
@[simp] theorem complete_input : (s.complete).input = s.input := rfl

/-! ### enterFault -/

@[simp] theorem enterFault_g (c : Cause) (w : Word) : (s.enterFault c w).g = s.g := rfl
@[simp] theorem enterFault_cfgT (c : Cause) (w : Word) : (s.enterFault c w).cfgT = s.cfgT := rfl
@[simp] theorem enterFault_cfgD (c : Cause) (w : Word) : (s.enterFault c w).cfgD = s.cfgD := rfl
@[simp] theorem enterFault_cfgN (c : Cause) (w : Word) : (s.enterFault c w).cfgN = s.cfgN := rfl
@[simp] theorem enterFault_tv (c : Cause) (w : Word) : (s.enterFault c w).tv = s.tv := rfl
@[simp] theorem enterFault_fault (c : Cause) (w : Word) : (s.enterFault c w).fault = true := rfl
@[simp] theorem enterFault_lv (c : Cause) (w : Word) : (s.enterFault c w).lv = s.lv := rfl
@[simp] theorem enterFault_cause (c : Cause) (w : Word) : (s.enterFault c w).cause = c.code := rfl
@[simp] theorem enterFault_fcmd (c : Cause) (w : Word) : (s.enterFault c w).fcmd = w := rfl
@[simp] theorem enterFault_fseq (c : Cause) (w : Word) : (s.enterFault c w).fseq = s.cseq := rfl
@[simp] theorem enterFault_cseq (c : Cause) (w : Word) : (s.enterFault c w).cseq = s.cseq := rfl
@[simp] theorem enterFault_dlen (c : Cause) (w : Word) : (s.enterFault c w).dlen = s.dlen := rfl
@[simp] theorem enterFault_elen (c : Cause) (w : Word) : (s.enterFault c w).elen = s.elen := rfl
@[simp] theorem enterFault_olen (c : Cause) (w : Word) : (s.enterFault c w).olen = s.olen := rfl
@[simp] theorem enterFault_optr (c : Cause) (w : Word) : (s.enterFault c w).optr = s.optr := rfl
@[simp] theorem enterFault_gdeg (c : Cause) (w : Word) : (s.enterFault c w).gdeg = s.gdeg := rfl
@[simp] theorem enterFault_g1b (c : Cause) (w : Word) : (s.enterFault c w).g1b = s.g1b := rfl
@[simp] theorem enterFault_g2b (c : Cause) (w : Word) : (s.enterFault c w).g2b = s.g2b := rfl
@[simp] theorem enterFault_g1t (c : Cause) (w : Word) : (s.enterFault c w).g1t = s.g1t := rfl
@[simp] theorem enterFault_g2t (c : Cause) (w : Word) : (s.enterFault c w).g2t = s.g2t := rfl
@[simp] theorem enterFault_g1d (c : Cause) (w : Word) : (s.enterFault c w).g1d = s.g1d := rfl
@[simp] theorem enterFault_g2d (c : Cause) (w : Word) : (s.enterFault c w).g2d = s.g2d := rfl
@[simp] theorem enterFault_ecb (c : Cause) (w : Word) : (s.enterFault c w).ecb = s.ecb := rfl
@[simp] theorem enterFault_exp (c : Cause) (w : Word) : (s.enterFault c w).exp = s.exp := rfl
@[simp] theorem enterFault_log (c : Cause) (w : Word) : (s.enterFault c w).log = s.log := rfl
@[simp] theorem enterFault_dmem (c : Cause) (w : Word) : (s.enterFault c w).dmem = s.dmem := rfl
@[simp] theorem enterFault_emem (c : Cause) (w : Word) : (s.enterFault c w).emem = s.emem := rfl
@[simp] theorem enterFault_omem (c : Cause) (w : Word) : (s.enterFault c w).omem = s.omem := rfl
@[simp] theorem enterFault_gen (c : Cause) (w : Word) : (s.enterFault c w).gen = s.gen := rfl
@[simp] theorem enterFault_sizes (c : Cause) (w : Word) : (s.enterFault c w).sizes = s.sizes := rfl
@[simp] theorem enterFault_input (c : Cause) (w : Word) : (s.enterFault c w).input = s.input := rfl

/-! ### startEncode -/

@[simp] theorem startEncode_g : (s.startEncode).g = s.g := rfl
@[simp] theorem startEncode_cfgT : (s.startEncode).cfgT = 0 := rfl
@[simp] theorem startEncode_cfgD : (s.startEncode).cfgD = 0 := rfl
@[simp] theorem startEncode_cfgN : (s.startEncode).cfgN = 0 := rfl
@[simp] theorem startEncode_tv : (s.startEncode).tv = s.tv := rfl
@[simp] theorem startEncode_fault : (s.startEncode).fault = false := rfl
@[simp] theorem startEncode_lv : (s.startEncode).lv = false := rfl
@[simp] theorem startEncode_cause : (s.startEncode).cause = 0 := rfl
@[simp] theorem startEncode_fcmd : (s.startEncode).fcmd = 0 := rfl
@[simp] theorem startEncode_fseq : (s.startEncode).fseq = 0 := rfl
@[simp] theorem startEncode_cseq : (s.startEncode).cseq = s.cseq := rfl
@[simp] theorem startEncode_dlen : (s.startEncode).dlen = 0 := rfl
@[simp] theorem startEncode_elen : (s.startEncode).elen = 0 := rfl
@[simp] theorem startEncode_olen : (s.startEncode).olen = 0 := rfl
@[simp] theorem startEncode_optr : (s.startEncode).optr = 0 := rfl
@[simp] theorem startEncode_gdeg : (s.startEncode).gdeg = 0 := rfl
@[simp] theorem startEncode_g1b : (s.startEncode).g1b = 0 := rfl
@[simp] theorem startEncode_g2b : (s.startEncode).g2b = 0 := rfl
@[simp] theorem startEncode_g1t : (s.startEncode).g1t = 0 := rfl
@[simp] theorem startEncode_g2t : (s.startEncode).g2t = 0 := rfl
@[simp] theorem startEncode_g1d : (s.startEncode).g1d = 0 := rfl
@[simp] theorem startEncode_g2d : (s.startEncode).g2d = 0 := rfl
@[simp] theorem startEncode_ecb : (s.startEncode).ecb = 0 := rfl
@[simp] theorem startEncode_exp : (s.startEncode).exp = s.exp := rfl
@[simp] theorem startEncode_log : (s.startEncode).log = s.log := rfl
@[simp] theorem startEncode_dmem : (s.startEncode).dmem = [] := rfl
@[simp] theorem startEncode_emem : (s.startEncode).emem = [] := rfl
@[simp] theorem startEncode_omem : (s.startEncode).omem = [] := rfl
@[simp] theorem startEncode_gen : (s.startEncode).gen = [] := rfl
@[simp] theorem startEncode_sizes : (s.startEncode).sizes = s.sizes := rfl
@[simp] theorem startEncode_input : (s.startEncode).input = s.input := rfl

/-! ### setLayout -/

@[simp] theorem setLayout_g (l : Layout) : (s.setLayout l).g = s.g := rfl
@[simp] theorem setLayout_cfgT (l : Layout) : (s.setLayout l).cfgT = s.cfgT := rfl
@[simp] theorem setLayout_cfgD (l : Layout) : (s.setLayout l).cfgD = s.cfgD := rfl
@[simp] theorem setLayout_cfgN (l : Layout) : (s.setLayout l).cfgN = s.cfgN := rfl
@[simp] theorem setLayout_tv (l : Layout) : (s.setLayout l).tv = s.tv := rfl
@[simp] theorem setLayout_fault (l : Layout) : (s.setLayout l).fault = s.fault := rfl
@[simp] theorem setLayout_lv (l : Layout) : (s.setLayout l).lv = true := rfl
@[simp] theorem setLayout_cause (l : Layout) : (s.setLayout l).cause = s.cause := rfl
@[simp] theorem setLayout_fcmd (l : Layout) : (s.setLayout l).fcmd = s.fcmd := rfl
@[simp] theorem setLayout_fseq (l : Layout) : (s.setLayout l).fseq = s.fseq := rfl
@[simp] theorem setLayout_cseq (l : Layout) : (s.setLayout l).cseq = s.cseq := rfl
@[simp] theorem setLayout_dlen (l : Layout) : (s.setLayout l).dlen = s.dlen := rfl
@[simp] theorem setLayout_elen (l : Layout) : (s.setLayout l).elen = s.elen := rfl
@[simp] theorem setLayout_olen (l : Layout) : (s.setLayout l).olen = s.olen := rfl
@[simp] theorem setLayout_optr (l : Layout) : (s.setLayout l).optr = s.optr := rfl
@[simp] theorem setLayout_gdeg (l : Layout) : (s.setLayout l).gdeg = s.gdeg := rfl
@[simp] theorem setLayout_g1b (l : Layout) : (s.setLayout l).g1b = BitVec.ofNat 17 l.g1b := rfl
@[simp] theorem setLayout_g2b (l : Layout) : (s.setLayout l).g2b = BitVec.ofNat 17 l.g2b := rfl
@[simp] theorem setLayout_g1t (l : Layout) : (s.setLayout l).g1t = BitVec.ofNat 17 l.g1t := rfl
@[simp] theorem setLayout_g2t (l : Layout) : (s.setLayout l).g2t = BitVec.ofNat 17 l.g2t := rfl
@[simp] theorem setLayout_g1d (l : Layout) : (s.setLayout l).g1d = BitVec.ofNat 17 l.g1d := rfl
@[simp] theorem setLayout_g2d (l : Layout) : (s.setLayout l).g2d = BitVec.ofNat 17 l.g2d := rfl
@[simp] theorem setLayout_ecb (l : Layout) : (s.setLayout l).ecb = BitVec.ofNat 17 l.ecb := rfl
@[simp] theorem setLayout_exp (l : Layout) : (s.setLayout l).exp = s.exp := rfl
@[simp] theorem setLayout_log (l : Layout) : (s.setLayout l).log = s.log := rfl
@[simp] theorem setLayout_dmem (l : Layout) : (s.setLayout l).dmem = s.dmem := rfl
@[simp] theorem setLayout_emem (l : Layout) : (s.setLayout l).emem = s.emem := rfl
@[simp] theorem setLayout_omem (l : Layout) : (s.setLayout l).omem = s.omem := rfl
@[simp] theorem setLayout_gen (l : Layout) : (s.setLayout l).gen = s.gen := rfl
@[simp] theorem setLayout_sizes (l : Layout) : (s.setLayout l).sizes = s.sizes := rfl
@[simp] theorem setLayout_input (l : Layout) : (s.setLayout l).input = s.input := rfl

/-! ### presentWord -/

@[simp] theorem presentWord_g (w : Word) : (s.presentWord w).g = s.g := rfl
@[simp] theorem presentWord_cfgT (w : Word) : (s.presentWord w).cfgT = s.cfgT := rfl
@[simp] theorem presentWord_cfgD (w : Word) : (s.presentWord w).cfgD = s.cfgD := rfl
@[simp] theorem presentWord_cfgN (w : Word) : (s.presentWord w).cfgN = s.cfgN := rfl
@[simp] theorem presentWord_tv (w : Word) : (s.presentWord w).tv = s.tv := rfl
@[simp] theorem presentWord_fault (w : Word) : (s.presentWord w).fault = s.fault := rfl
@[simp] theorem presentWord_lv (w : Word) : (s.presentWord w).lv = s.lv := rfl
@[simp] theorem presentWord_cause (w : Word) : (s.presentWord w).cause = s.cause := rfl
@[simp] theorem presentWord_fcmd (w : Word) : (s.presentWord w).fcmd = s.fcmd := rfl
@[simp] theorem presentWord_fseq (w : Word) : (s.presentWord w).fseq = s.fseq := rfl
@[simp] theorem presentWord_cseq (w : Word) : (s.presentWord w).cseq = s.cseq := rfl
@[simp] theorem presentWord_dlen (w : Word) : (s.presentWord w).dlen = s.dlen := rfl
@[simp] theorem presentWord_elen (w : Word) : (s.presentWord w).elen = s.elen := rfl
@[simp] theorem presentWord_olen (w : Word) : (s.presentWord w).olen = s.olen := rfl
@[simp] theorem presentWord_optr (w : Word) : (s.presentWord w).optr = s.optr := rfl
@[simp] theorem presentWord_gdeg (w : Word) : (s.presentWord w).gdeg = s.gdeg := rfl
@[simp] theorem presentWord_g1b (w : Word) : (s.presentWord w).g1b = s.g1b := rfl
@[simp] theorem presentWord_g2b (w : Word) : (s.presentWord w).g2b = s.g2b := rfl
@[simp] theorem presentWord_g1t (w : Word) : (s.presentWord w).g1t = s.g1t := rfl
@[simp] theorem presentWord_g2t (w : Word) : (s.presentWord w).g2t = s.g2t := rfl
@[simp] theorem presentWord_g1d (w : Word) : (s.presentWord w).g1d = s.g1d := rfl
@[simp] theorem presentWord_g2d (w : Word) : (s.presentWord w).g2d = s.g2d := rfl
@[simp] theorem presentWord_ecb (w : Word) : (s.presentWord w).ecb = s.ecb := rfl
@[simp] theorem presentWord_exp (w : Word) : (s.presentWord w).exp = s.exp := rfl
@[simp] theorem presentWord_log (w : Word) : (s.presentWord w).log = s.log := rfl
@[simp] theorem presentWord_dmem (w : Word) : (s.presentWord w).dmem = s.dmem := rfl
@[simp] theorem presentWord_emem (w : Word) : (s.presentWord w).emem = s.emem := rfl
@[simp] theorem presentWord_omem (w : Word) : (s.presentWord w).omem = s.omem := rfl
@[simp] theorem presentWord_gen (w : Word) : (s.presentWord w).gen = s.gen := rfl
@[simp] theorem presentWord_sizes (w : Word) : (s.presentWord w).sizes = s.sizes := rfl
@[simp] theorem presentWord_input (w : Word) : (s.presentWord w).input = .command w :: s.input := rfl

/-! ### resetEngine -/

@[simp] theorem resetEngine_g : (s.resetEngine).g = State.reset.g := rfl
@[simp] theorem resetEngine_cfgT : (s.resetEngine).cfgT = State.reset.cfgT := rfl
@[simp] theorem resetEngine_cfgD : (s.resetEngine).cfgD = State.reset.cfgD := rfl
@[simp] theorem resetEngine_cfgN : (s.resetEngine).cfgN = State.reset.cfgN := rfl
@[simp] theorem resetEngine_tv : (s.resetEngine).tv = State.reset.tv := rfl
@[simp] theorem resetEngine_fault : (s.resetEngine).fault = State.reset.fault := rfl
@[simp] theorem resetEngine_lv : (s.resetEngine).lv = State.reset.lv := rfl
@[simp] theorem resetEngine_cause : (s.resetEngine).cause = State.reset.cause := rfl
@[simp] theorem resetEngine_fcmd : (s.resetEngine).fcmd = State.reset.fcmd := rfl
@[simp] theorem resetEngine_fseq : (s.resetEngine).fseq = State.reset.fseq := rfl
@[simp] theorem resetEngine_cseq : (s.resetEngine).cseq = State.reset.cseq := rfl
@[simp] theorem resetEngine_dlen : (s.resetEngine).dlen = State.reset.dlen := rfl
@[simp] theorem resetEngine_elen : (s.resetEngine).elen = State.reset.elen := rfl
@[simp] theorem resetEngine_olen : (s.resetEngine).olen = State.reset.olen := rfl
@[simp] theorem resetEngine_optr : (s.resetEngine).optr = State.reset.optr := rfl
@[simp] theorem resetEngine_gdeg : (s.resetEngine).gdeg = State.reset.gdeg := rfl
@[simp] theorem resetEngine_g1b : (s.resetEngine).g1b = State.reset.g1b := rfl
@[simp] theorem resetEngine_g2b : (s.resetEngine).g2b = State.reset.g2b := rfl
@[simp] theorem resetEngine_g1t : (s.resetEngine).g1t = State.reset.g1t := rfl
@[simp] theorem resetEngine_g2t : (s.resetEngine).g2t = State.reset.g2t := rfl
@[simp] theorem resetEngine_g1d : (s.resetEngine).g1d = State.reset.g1d := rfl
@[simp] theorem resetEngine_g2d : (s.resetEngine).g2d = State.reset.g2d := rfl
@[simp] theorem resetEngine_ecb : (s.resetEngine).ecb = State.reset.ecb := rfl
@[simp] theorem resetEngine_exp : (s.resetEngine).exp = State.reset.exp := rfl
@[simp] theorem resetEngine_log : (s.resetEngine).log = State.reset.log := rfl
@[simp] theorem resetEngine_dmem : (s.resetEngine).dmem = State.reset.dmem := rfl
@[simp] theorem resetEngine_emem : (s.resetEngine).emem = State.reset.emem := rfl
@[simp] theorem resetEngine_omem : (s.resetEngine).omem = State.reset.omem := rfl
@[simp] theorem resetEngine_gen : (s.resetEngine).gen = State.reset.gen := rfl
@[simp] theorem resetEngine_sizes : (s.resetEngine).sizes = s.sizes := rfl
@[simp] theorem resetEngine_input : (s.resetEngine).input = s.input := rfl

/-! ### Sizes -/

@[simp] theorem resetOf_sizes (p : Config.Params) : (State.resetOf p).sizes = p := rfl
@[simp] theorem resetOf_qrec : State.resetOf Config.qrec = State.reset := rfl

/-- The machine behind the host's interface is the one of the decided sizes (R3). -/
theorem coreOf_qrec : coreOf Config.qrec = core := rfl

end Sys2Proof.Machine.State
end

