-- ==== Sys2Proof/Laws/Ops.lean ====
section
/-! SUPPORT. What each shared operation can do, said once: registers, the checks, the loads, the push, the count, the layout,
the execution of a command's rule, and one inversion lemma for `exec`. -/

namespace Sys2Proof.Machine

/-! ### Registers -/

/-- A register read after a register write. -/
@[simp] theorem State.reg_setReg (s : State) (r q : Reg) (v : Byte) :
    (s.setReg r v).reg q = if q = r then v else s.reg q := by
  have hq : q.toNat < 8 := q.isLt
  have hr : r.toNat < 8 := r.isLt
  simp only [State.reg, State.setReg, Vector.getElem_set, BitVec.toNat_eq]
  by_cases h : r.toNat = q.toNat
  · simp [h]
  · simp [h, Ne.symm h]

/-! ### The execution of a command's rule -/

/-- R144: a discarded command. -/
theorem runCommand_faulted {s : State} (h : s.fault = true) (w : Word) (e : Effect) : runCommand w s e = .next s := by
  simp [runCommand, h]

/-- R154: a completed command. -/
theorem runCommand_commit {s : State} (h : s.fault = false) (w : Word) (t : State) :
    runCommand w s (.commit t) = .next t.complete := by
  simp [runCommand, h]

/-- R143: a command that faults. -/
theorem runCommand_raise {s : State} (h : s.fault = false) (w : Word) (c : Cause) :
    runCommand w s (.raise c) = .next (s.enterFault c w) := by
  simp [runCommand, h]

/-- Everything `runCommand` can answer as a next state. -/
theorem runCommand_next {w : Word} {s t : State} {e : Effect} (h : runCommand w s e = .next t) :
    (s.fault = true ∧ t = s) ∨
    (s.fault = false ∧ ∃ u, e = .commit u ∧ t = u.complete) ∨
    (s.fault = false ∧ ∃ c, e = .raise c ∧ t = s.enterFault c w) := by
  unfold runCommand at h
  cases hf : s.fault with
  | true => rw [hf] at h; simp at h; exact .inl ⟨rfl, h.symm⟩
  | false =>
    rw [hf] at h
    cases e with
    | commit u => simp at h; exact .inr (.inl ⟨rfl, u, rfl, h.symm⟩)
    | raise c => simp at h; exact .inr (.inr ⟨rfl, c, rfl, h.symm⟩)
    | stuck => simp at h

/-- `runCommand` refuses nothing, and stops only on a stuck effect. -/
theorem runCommand_stop {w : Word} {s : State} {e : Effect} (h : ∀ t, runCommand w s e ≠ .next t) : e = .stuck := by
  unfold runCommand at h
  cases hf : s.fault <;> cases e <;> simp_all

/-! ### The checks -/

@[simp] theorem needTables_commit {s u : State} {e : Effect} :
    needTables s e = .commit u ↔ s.tv = true ∧ e = .commit u := by
  unfold needTables; cases s.tv <;> simp

@[simp] theorem needTables_raise {s : State} {e : Effect} {c : Cause} :
    needTables s e = .raise c ↔ (s.tv = false ∧ c = .tablesNotReady) ∨ (s.tv = true ∧ e = .raise c) := by
  unfold needTables; cases s.tv <;> simp [eq_comm]

@[simp] theorem withValue_commit {α : Type} {v : Option α} {k : α → Effect} {u : State} :
    Effect.withValue v k = .commit u ↔ ∃ x, v = some x ∧ k x = .commit u := by
  cases v <;> simp [Effect.withValue]

@[simp] theorem withValue_raise {α : Type} {v : Option α} {k : α → Effect} {c : Cause} :
    Effect.withValue v k = .raise c ↔ ∃ x, v = some x ∧ k x = .raise c := by
  cases v <;> simp [Effect.withValue]

theorem withCount_commit {s : State} {imm16 : BitVec 16} {k : Nat → Effect} {u : State} :
    withCount s imm16 k = .commit u ↔
      0 < signedCount imm16 ∧ signedCount imm16 ≤ s.sizes.rmax ∧ k (signedCount imm16).toNat = .commit u := by
  unfold withCount
  by_cases h1 : signedCount imm16 ≤ 0
  · rw [if_pos h1]; exact ⟨fun h => (by cases h), fun ⟨h, _⟩ => absurd h (by omega)⟩
  · by_cases h2 : (s.sizes.rmax : Int) < signedCount imm16
    · rw [if_neg h1, if_pos h2]; exact ⟨fun h => (by cases h), fun ⟨_, h, _⟩ => absurd h (by omega)⟩
    · simp only [h1, h2, if_false]; constructor
      · intro h; exact ⟨by omega, by omega, h⟩
      · exact fun h => h.2.2

theorem withCount_raise {s : State} {imm16 : BitVec 16} {k : Nat → Effect} {c : Cause}
    (h : withCount s imm16 k = .raise c) :
    c = .fieldArithmeticError ∨ c = .bufferBounds ∨ k (signedCount imm16).toNat = .raise c := by
  unfold withCount at h
  split at h
  · exact .inl (by cases h; rfl)
  · split at h
    · exact .inr (.inl (by cases h; rfl))
    · exact .inr (.inr h)

/-- What R3 asks of the sizes, as inequalities. -/
theorem legal_iff {p : Config.Params} :
    p.legal = true ↔
      (1 ≤ p.dmax ∧ p.dmax ≤ 65535) ∧ (p.rmax ≤ p.emax ∧ p.emax ≤ 65535) ∧ (1 ≤ p.omax ∧ p.omax ≤ 65535) ∧
      (1 ≤ p.rmax ∧ p.rmax ≤ 32767) := by
  simp only [Config.Params.legal, Bool.and_eq_true, decide_eq_true_eq, and_assoc]

/-- Everything a load can commit. -/
theorem loadByte_commit {s u : State} {sp : Space} {rd : Reg} {a : BitVec 16} :
    loadByte s sp rd a = .commit u ↔
      s.validIndex sp a.toNat = true ∧ ∃ v, s.readByte sp a.toNat = some v ∧ u = s.setReg rd v := by
  unfold loadByte
  split
  · next h => rw [withValue_commit]; simp only [Effect.commit.injEq, h, true_and, @eq_comm _ u]
  · next h => simp [h]

/-- The only cause a load raises. -/
theorem loadByte_raise {s : State} {sp : Space} {rd : Reg} {a : BitVec 16} {c : Cause} :
    loadByte s sp rd a = .raise c ↔ s.validIndex sp a.toNat = false ∧ c = .bufferBounds := by
  unfold loadByte
  split
  · next h => simp [h]
  · next h => simp [h, eq_comm]

/-- Everything a push can commit. -/
theorem pushByte_commit {s u : State} {v : Byte} :
    pushByte s v = .commit u ↔ s.dlen.toNat < s.sizes.dmax ∧ u = s.pushData v := by
  unfold pushByte
  split
  · simp; omega
  · simp [eq_comm]; omega

/-- The only cause a push raises. -/
theorem pushByte_raise {s : State} {v : Byte} {c : Cause} :
    pushByte s v = .raise c ↔ s.sizes.dmax ≤ s.dlen.toNat ∧ c = .bufferBounds := by
  unfold pushByte
  split
  · next h => simp [h, eq_comm]
  · next h => simp [h]

/-! ### The layout -/

/-- Everything the layout computation can answer with a layout (R101, R102). -/
theorem layoutOf_ok {t d n : Nat} {l : Layout} :
    layoutOf t d n = .ok l ↔
      n ≠ 0 ∧ d / n < t / n ∧
      l = { g1b := n - t % n, g2b := t % n, g1t := t / n, g2t := t / n + 1, g1d := d / n, g2d := d / n + 1,
            ecb := t / n - d / n } := by
  have he : ((t / n : Nat) - (d / n : Nat) : Int).toNat = t / n - d / n := by omega
  unfold layoutOf
  by_cases h0 : n = 0
  · simp [h0]
  · simp only [h0, if_false]
    by_cases h1 : ((t / n : Nat) : Int) - ((d / n : Nat) : Int) ≤ 0
    · have : ¬ d / n < t / n := by omega
      simp only [h1, if_true, this]; simp
    · have h2 : d / n < t / n := by omega
      simp only [h1, if_false, h2, he, Except.ok.injEq, true_and, @eq_comm _ l, ne_eq, h0, not_false_eq_true]

/-- The only cause the layout computation raises, and when. -/
theorem layoutOf_error {t d n : Nat} {c : Cause} :
    layoutOf t d n = .error c ↔ (n = 0 ∨ t / n ≤ d / n) ∧ c = .configError := by
  unfold layoutOf
  by_cases h0 : n = 0
  · simp [h0, eq_comm]
  · simp only [h0, if_false, false_or]
    by_cases h1 : ((t / n : Nat) : Int) - ((d / n : Nat) : Int) ≤ 0
    · have : t / n ≤ d / n := by omega
      simp only [h1, if_true, this]; simp [eq_comm]
    · have h2 : ¬ t / n ≤ d / n := by omega
      simp only [h1, if_false, h2]; simp

/-- Everything `ILV` can commit (R108). -/
theorem ilvEffect_commit {s u : State} :
    ilvEffect s = .commit u ↔
      s.tv = true ∧ ∃ l r, s.layout = .ok l ∧
        s.cfgT.toNat ≤ s.sizes.omax ∧ s.cfgN.toNat * l.ecb ≤ s.sizes.emax ∧ l.ecb ≤ s.sizes.rmax ∧
        s.dlen.toNat = s.cfgD.toNat ∧ l.covered = s.cfgD.toNat ∧
        encodeBlocks s.exp s.log s.dmem s.cfgN.toNat l = some r ∧ r.out.length = s.cfgT.toNat ∧
        u = (((s.setLayout l).setGenerator r.gen l.ecb).setEc r.ec (s.cfgN.toNat * l.ecb)).setOutput r.out
              s.cfgT.toNat := by
  simp only [ilvEffect, needTables_commit]
  refine and_congr_right fun _ => ?_
  cases hl : s.layout with
  | error c => simp
  | ok l =>
    simp only [Except.ok.injEq]
    by_cases h1 : s.cfgT.toNat > s.sizes.omax ∨ s.cfgN.toNat * l.ecb > s.sizes.emax ∨ l.ecb > s.sizes.rmax
    · simp only [h1, if_true]
      constructor
      · intro h; cases h
      · rintro ⟨_, r, rfl, h2, h3, h4, _⟩; omega
    · by_cases h2 : s.dlen.toNat ≠ s.cfgD.toNat ∨ l.covered ≠ s.cfgD.toNat
      · simp only [h1, if_false, h2, if_true]
        constructor
        · intro h; cases h
        · rintro ⟨_, r, rfl, _, _, _, h3, h4, _⟩; omega
      · simp only [h1, if_false, h2, withValue_commit]
        constructor
        · rintro ⟨r, hr, h⟩
          split at h
          · cases h
          · next h3 => cases h; exact ⟨l, r, rfl, by omega, by omega, by omega, by omega, by omega, hr, by omega, rfl⟩
        · rintro ⟨_, r, rfl, _, _, _, _, _, hr, h3, rfl⟩
          exact ⟨r, hr, by simp [h3]⟩

/-- The causes `ILV` raises. -/
theorem ilvEffect_raise {s : State} {c : Cause} (h : ilvEffect s = .raise c) :
    c = .tablesNotReady ∨ c = .configError ∨ c = .bufferBounds ∨ c = .malformedBitStream := by
  simp only [ilvEffect, needTables_raise] at h
  rcases h with ⟨_, rfl⟩ | ⟨_, h⟩
  · simp
  · cases hl : s.layout with
    | error e =>
      rw [hl] at h
      have := (layoutOf_error.mp hl).2
      simp at h; subst h; simp [this]
    | ok l =>
      rw [hl] at h
      simp only at h
      split at h
      · cases h; simp
      · split at h
        · cases h; simp
        · rw [withValue_raise] at h
          obtain ⟨r, -, h⟩ := h
          split at h <;> cases h; simp

/-! ### `exec`, once and for all -/

/-- What a command's rule can commit, before the completion is counted. -/
def Commits (s u : State) : Instr → Prop
  | .nop => u = s
  | .beginEncode => u = s.startEncode
  | .gfinit => u = if s.tv then s else s.setTables builtTables.1 builtTables.2
  | .gffin => u = if s.tv then s.dropTables else s
  | .csrwT v => u = s.setCfgT v
  | .csrwD v => u = s.setCfgD v
  | .csrwN v => u = s.setCfgN v
  | .li rd v => u = s.setReg rd v
  | .gfadd rd ra rb => u = s.setReg rd (gfadd (s.reg ra) (s.reg rb))
  | .gfmul rd ra rb => s.tv = true ∧ ∃ v, gfmul s.exp s.log (s.reg ra) (s.reg rb) = some v ∧ u = s.setReg rd v
  | .gfdiv rd ra rb =>
    s.tv = true ∧ s.reg rb ≠ 0 ∧ ∃ v, gfdiv s.exp s.log (s.reg ra) (s.reg rb) = some v ∧ u = s.setReg rd v
  | .gfexp rd ra => s.tv = true ∧ ∃ v, s.readByte .exp ((s.reg ra).toNat % 255) = some v ∧ u = s.setReg rd v
  | .gflog rd ra => s.tv = true ∧ s.reg ra ≠ 0 ∧ ∃ v, s.readByte .log (s.reg ra).toNat = some v ∧ u = s.setReg rd v
  | .dpushi v => s.dlen.toNat < s.sizes.dmax ∧ u = s.pushData v
  | .dpush rs => s.dlen.toNat < s.sizes.dmax ∧ u = s.pushData (s.reg rs)
  | .ldd rd a => s.validIndex .dmem a.toNat = true ∧ ∃ v, s.readByte .dmem a.toNat = some v ∧ u = s.setReg rd v
  | .lde rd a => s.validIndex .emem a.toNat = true ∧ ∃ v, s.readByte .emem a.toNat = some v ∧ u = s.setReg rd v
  | .ldo rd a => s.validIndex .omem a.toNat = true ∧ ∃ v, s.readByte .omem a.toNat = some v ∧ u = s.setReg rd v
  | .ldg rd a => s.validIndex .gen a.toNat = true ∧ ∃ v, s.readByte .gen a.toNat = some v ∧ u = s.setReg rd v
  | .rsgen v =>
    s.tv = true ∧ 0 < signedCount v ∧ signedCount v ≤ s.sizes.rmax ∧
      ∃ gen, generator s.exp s.log (signedCount v).toNat = some gen ∧ u = s.setGenerator gen (signedCount v).toNat
  | .rsenc v =>
    s.tv = true ∧ 0 < signedCount v ∧ signedCount v ≤ s.sizes.rmax ∧
      ∃ gen d ec, generator s.exp s.log (signedCount v).toNat = some gen ∧
        Memory.slice s.dmem 0 s.dlen.toNat = some d ∧ remainder s.exp s.log d gen = some ec ∧
        u = (s.setGenerator gen (signedCount v).toNat).setEc ec (signedCount v).toNat
  | .ilayout => ∃ l, s.layout = .ok l ∧ u = s.setLayout l
  | .ilv => ilvEffect s = .commit u
  | .onext rd =>
    s.optr < s.olen ∧ ∃ v, s.readByte .omem s.optr.toNat = some v ∧ u = (s.setReg rd v).advanceOptr

/-- The causes a command can raise once it is decoded (R142), with the check that raises each. -/
def Raises (s : State) (c : Cause) : Instr → Prop
  | .nop | .beginEncode | .gfinit | .gffin | .csrwT _ | .csrwD _ | .csrwN _ | .li _ _ | .gfadd _ _ _ => False
  | .gfmul _ _ _ | .gfexp _ _ => s.tv = false ∧ c = .tablesNotReady
  | .gfdiv _ _ rb =>
    (s.tv = false ∧ c = .tablesNotReady) ∨ (s.tv = true ∧ s.reg rb = 0 ∧ c = .fieldArithmeticError)
  | .gflog _ ra =>
    (s.tv = false ∧ c = .tablesNotReady) ∨ (s.tv = true ∧ s.reg ra = 0 ∧ c = .fieldArithmeticError)
  | .dpushi _ | .dpush _ => s.sizes.dmax ≤ s.dlen.toNat ∧ c = .bufferBounds
  | .ldd _ a => s.validIndex .dmem a.toNat = false ∧ c = .bufferBounds
  | .lde _ a => s.validIndex .emem a.toNat = false ∧ c = .bufferBounds
  | .ldo _ a => s.validIndex .omem a.toNat = false ∧ c = .bufferBounds
  | .ldg _ a => s.validIndex .gen a.toNat = false ∧ c = .bufferBounds
  | .rsgen _ | .rsenc _ => c = .tablesNotReady ∨ c = .fieldArithmeticError ∨ c = .bufferBounds
  | .ilayout => s.layout = .error c
  | .ilv => ilvEffect s = .raise c
  | .onext _ => s.olen ≤ s.optr ∧ c = .bufferBounds

theorem ite_raise_commit {p : Prop} [Decidable p] {c : Cause} {e : Effect} {u : State} :
    (if p then Effect.raise c else e) = .commit u ↔ ¬ p ∧ e = .commit u := by
  split <;> simp [*]

theorem ite_raise_raise {p : Prop} [Decidable p] {c c' : Cause} {e : Effect} :
    (if p then Effect.raise c else e) = .raise c' ↔ (p ∧ c' = c) ∨ (¬ p ∧ e = .raise c') := by
  split <;> simp [*, eq_comm]

/-- `exec` of every command but `BEGIN` is the execution of a rule (R154). -/
theorem exec_eq_runCommand {i : Instr} (hi : i ≠ .beginEncode) (s : State) :
    ∃ e, exec i s = runCommand (encode i) s e ∧ (∀ u, e = .commit u → Commits s u i) ∧ (∀ c, e = .raise c → Raises s c i) := by
  cases i
  case beginEncode => exact absurd rfl hi
  case ilayout =>
    simp only [exec, execIlayout]
    refine ⟨_, rfl, fun u h => ?_, fun c h => ?_⟩ <;> cases hl : s.layout <;> simp_all [Commits, Raises]
  case ilv =>
    simp only [exec, execIlv]
    exact ⟨_, rfl, fun u h => h, fun c h => h⟩
  all_goals
    simp only [exec, execNop, execGfinit, execGffin, execCsrwT, execCsrwD, execCsrwN, execLi, execGfadd, execGfmul,
      execGfdiv, execGfexp, execGflog, execDpushi, execDpush, execLdd, execLde, execLdo, execLdg, execRsgen, execRsenc,
      execOnext]
    refine ⟨_, rfl, fun u h => ?_, fun c h => ?_⟩
    · simp only [needTables_commit, withValue_commit, withCount_commit, loadByte_commit, pushByte_commit,
        ite_raise_commit, Effect.commit.injEq] at h
      simp only [Commits]
      grind
    · simp only [needTables_raise, withValue_raise, loadByte_raise, pushByte_raise, ite_raise_raise,
        reduceCtorEq, and_false, exists_false, or_false] at h <;>
      simp only [Raises] <;>
      first
        | exact h
        | grind
        | (rcases h with ⟨_, rfl⟩ | ⟨_, h⟩
           · exact .inl rfl
           · rcases withCount_raise h with rfl | rfl | h
             · exact .inr (.inl rfl)
             · exact .inr (.inr rfl)
             · simp at h)

/-- Everything a command can answer as a next state: `BEGIN`, a discarded command, a completion, or a fault entry. -/
theorem exec_next {i : Instr} {s t : State} (h : exec i s = .next t) :
    (i = .beginEncode ∧ t = s.startEncode.complete) ∨
    (i ≠ .beginEncode ∧ s.fault = true ∧ t = s) ∨
    (i ≠ .beginEncode ∧ s.fault = false ∧ ∃ u, Commits s u i ∧ t = u.complete) ∨
    (i ≠ .beginEncode ∧ s.fault = false ∧ ∃ c, Raises s c i ∧ t = s.enterFault c (encode i)) := by
  by_cases hi : i = .beginEncode
  · subst hi
    simp only [exec, execBeginEncode, Host.Outcome.next.injEq] at h
    exact .inl ⟨rfl, h.symm⟩
  · obtain ⟨e, he, hc, hr⟩ := exec_eq_runCommand hi s
    rcases runCommand_next (he ▸ h) with ⟨hf, rfl⟩ | ⟨hf, u, hu, rfl⟩ | ⟨hf, c, hu, rfl⟩
    · exact .inr (.inl ⟨hi, hf, rfl⟩)
    · exact .inr (.inr (.inl ⟨hi, hf, u, hc u hu, rfl⟩))
    · exact .inr (.inr (.inr ⟨hi, hf, c, hr c hu, rfl⟩))

end Sys2Proof.Machine
end

