-- ==== Sys2Proof/Laws/PerInstr.lean ====
section
/-! SUPPORT. The family `LegalEncoding`: the word the encoder lays out for a command passes the four checks of 30_encoding.md
R56, which are written apart from the decoder. One lemma per format, then one per constructor. -/

namespace Sys2Proof.Laws.LegalEncoding

open Sys2Proof.WellFormed

/-- The word of the command is legal: a defined opcode, reserved bits zero, registers in range, a writable CSR (R56). -/
def Statement (i : Instr) : Prop := wellFormedWord (encode i) = true

/-- A word with a defined opcode other than 0x08 is legal when its reserved bits and the tops of its register fields are
zero. -/
theorem legal_of {w : Word} {op : BitVec 8} {f : Format} (hf : formatOf op = some f) (hc : op ≠ 0x08#8)
    (hop : opcodeField w = op) (hr : w &&& reservedMask f = 0) (hg : w &&& registerMask f = 0) :
    wellFormedWord w = true := by
  simp [wellFormedWord, opcodeDefined, reservedClear, registersInRange, csrWritable, hop, hf, hr, hg, hc]

/-- Format N. -/
theorem legal_n {op : BitVec 8} (hf : formatOf op = some .n) (hc : op ≠ 0x08#8) :
    wellFormedWord (encodeN op) = true := by
  refine legal_of hf hc ?_ ?_ ?_ <;> refine BitVec.eq_of_getLsbD_eq fun k hk => ?_
  · simp only [encodeN, opcodeField, BitVec.getLsbD_extractLsb', BitVec.getLsbD_append]
    interval_cases k <;> simp
  · simp only [encodeN, reservedMask, BitVec.getLsbD_and, BitVec.getLsbD_append]
    interval_cases k <;> simp
  · simp only [encodeN, registerMask, BitVec.getLsbD_and, BitVec.getLsbD_append]
    interval_cases k <;> simp

/-- Format R3. -/
theorem legal_r3 {op : BitVec 8} (hf : formatOf op = some .r3) (hc : op ≠ 0x08#8) (rd ra rb : Reg) :
    wellFormedWord (encodeR3 op rd ra rb) = true := by
  refine legal_of hf hc ?_ ?_ ?_ <;> refine BitVec.eq_of_getLsbD_eq fun k hk => ?_
  · simp only [encodeR3, regField, opcodeField, BitVec.getLsbD_extractLsb', BitVec.getLsbD_append]
    interval_cases k <;> simp
  · simp only [encodeR3, regField, reservedMask, BitVec.getLsbD_and, BitVec.getLsbD_append]
    interval_cases k <;> simp
  · simp only [encodeR3, regField, registerMask, BitVec.getLsbD_and, BitVec.getLsbD_append]
    interval_cases k <;> simp

/-- Format R2. -/
theorem legal_r2 {op : BitVec 8} (hf : formatOf op = some .r2) (hc : op ≠ 0x08#8) (rd ra : Reg) :
    wellFormedWord (encodeR2 op rd ra) = true := by
  refine legal_of hf hc ?_ ?_ ?_ <;> refine BitVec.eq_of_getLsbD_eq fun k hk => ?_
  · simp only [encodeR2, regField, opcodeField, BitVec.getLsbD_extractLsb', BitVec.getLsbD_append]
    interval_cases k <;> simp
  · simp only [encodeR2, regField, reservedMask, BitVec.getLsbD_and, BitVec.getLsbD_append]
    interval_cases k <;> simp
  · simp only [encodeR2, regField, registerMask, BitVec.getLsbD_and, BitVec.getLsbD_append]
    interval_cases k <;> simp

/-- Format R1. -/
theorem legal_r1 {op : BitVec 8} (hf : formatOf op = some .r1) (hc : op ≠ 0x08#8) (r : Reg) :
    wellFormedWord (encodeR1 op r) = true := by
  refine legal_of hf hc ?_ ?_ ?_ <;> refine BitVec.eq_of_getLsbD_eq fun k hk => ?_
  · simp only [encodeR1, regField, opcodeField, BitVec.getLsbD_extractLsb', BitVec.getLsbD_append]
    interval_cases k <;> simp
  · simp only [encodeR1, regField, reservedMask, BitVec.getLsbD_and, BitVec.getLsbD_append]
    interval_cases k <;> simp
  · simp only [encodeR1, regField, registerMask, BitVec.getLsbD_and, BitVec.getLsbD_append]
    interval_cases k <;> simp

/-- Format RI. -/
theorem legal_ri {op : BitVec 8} (hf : formatOf op = some .ri) (hc : op ≠ 0x08#8) (rd : Reg) (imm8 : Byte) :
    wellFormedWord (encodeRI op rd imm8) = true := by
  refine legal_of hf hc ?_ ?_ ?_ <;> refine BitVec.eq_of_getLsbD_eq fun k hk => ?_
  · simp only [encodeRI, regField, opcodeField, BitVec.getLsbD_extractLsb', BitVec.getLsbD_append]
    interval_cases k <;> simp
  · simp only [encodeRI, regField, reservedMask, BitVec.getLsbD_and, BitVec.getLsbD_append]
    interval_cases k <;> simp
  · simp only [encodeRI, regField, registerMask, BitVec.getLsbD_and, BitVec.getLsbD_append]
    interval_cases k <;> simp

/-- Format I8. -/
theorem legal_i8 {op : BitVec 8} (hf : formatOf op = some .i8) (hc : op ≠ 0x08#8) (imm8 : Byte) :
    wellFormedWord (encodeI8 op imm8) = true := by
  refine legal_of hf hc ?_ ?_ ?_ <;> refine BitVec.eq_of_getLsbD_eq fun k hk => ?_
  · simp only [encodeI8, opcodeField, BitVec.getLsbD_extractLsb', BitVec.getLsbD_append]
    interval_cases k <;> simp
  · simp only [encodeI8, reservedMask, BitVec.getLsbD_and, BitVec.getLsbD_append]
    interval_cases k <;> simp
  · simp only [encodeI8, registerMask, BitVec.getLsbD_and, BitVec.getLsbD_append]
    interval_cases k <;> simp

/-- Format RA. -/
theorem legal_ra {op : BitVec 8} (hf : formatOf op = some .ra) (hc : op ≠ 0x08#8) (rd : Reg) (addr16 : BitVec 16) :
    wellFormedWord (encodeRA op rd addr16) = true := by
  refine legal_of hf hc ?_ ?_ ?_ <;> refine BitVec.eq_of_getLsbD_eq fun k hk => ?_
  · simp only [encodeRA, regField, opcodeField, BitVec.getLsbD_extractLsb', BitVec.getLsbD_append]
    interval_cases k <;> simp
  · simp only [encodeRA, regField, reservedMask, BitVec.getLsbD_and, BitVec.getLsbD_append]
    interval_cases k <;> simp
  · simp only [encodeRA, regField, registerMask, BitVec.getLsbD_and, BitVec.getLsbD_append]
    interval_cases k <;> simp

/-- Format I16. -/
theorem legal_i16 {op : BitVec 8} (hf : formatOf op = some .i16) (hc : op ≠ 0x08#8) (imm16 : BitVec 16) :
    wellFormedWord (encodeI16 op imm16) = true := by
  refine legal_of hf hc ?_ ?_ ?_ <;> refine BitVec.eq_of_getLsbD_eq fun k hk => ?_
  · simp only [encodeI16, opcodeField, BitVec.getLsbD_extractLsb', BitVec.getLsbD_append]
    interval_cases k <;> simp
  · simp only [encodeI16, reservedMask, BitVec.getLsbD_and, BitVec.getLsbD_append]
    interval_cases k <;> simp
  · simp only [encodeI16, registerMask, BitVec.getLsbD_and, BitVec.getLsbD_append]
    interval_cases k <;> simp

/-- Format CI, for the three writable registers. -/
theorem legal_ci (csr : BitVec 8) (h : csr ∈ [0x00#8, 0x01#8, 0x02#8]) (imm16 : BitVec 16) :
    wellFormedWord (encodeCI 0x08 csr imm16) = true := by
  have hop : opcodeField (encodeCI 0x08 csr imm16) = 0x08#8 := by
    refine BitVec.eq_of_getLsbD_eq fun k hk => ?_
    simp only [encodeCI, opcodeField, BitVec.getLsbD_extractLsb', BitVec.getLsbD_append]
    interval_cases k <;> simp
  have hcsr : (encodeCI 0x08 csr imm16).extractLsb' 16 8 = csr := by
    refine BitVec.eq_of_getLsbD_eq fun k hk => ?_
    simp only [encodeCI, BitVec.getLsbD_extractLsb', BitVec.getLsbD_append]
    interval_cases k <;> simp
  simp only [wellFormedWord, opcodeDefined, reservedClear, registersInRange, csrWritable, hop, hcsr]
  simpa [formatOf, reservedMask, registerMask] using h

/-! One lemma per constructor. -/

theorem nop : Statement .nop := legal_n (by decide) (by decide)
theorem beginEncode : Statement .beginEncode := legal_n (by decide) (by decide)
theorem gfinit : Statement .gfinit := legal_n (by decide) (by decide)
theorem gffin : Statement .gffin := legal_n (by decide) (by decide)
theorem csrwT (imm16 : BitVec 16) : Statement (.csrwT imm16) := legal_ci 0x00 (by decide) imm16
theorem csrwD (imm16 : BitVec 16) : Statement (.csrwD imm16) := legal_ci 0x01 (by decide) imm16
theorem csrwN (imm16 : BitVec 16) : Statement (.csrwN imm16) := legal_ci 0x02 (by decide) imm16
theorem li (rd : Reg) (imm8 : Byte) : Statement (.li rd imm8) := legal_ri (by decide) (by decide) rd imm8
theorem gfadd (rd ra rb : Reg) : Statement (.gfadd rd ra rb) := legal_r3 (by decide) (by decide) rd ra rb
theorem gfmul (rd ra rb : Reg) : Statement (.gfmul rd ra rb) := legal_r3 (by decide) (by decide) rd ra rb
theorem gfdiv (rd ra rb : Reg) : Statement (.gfdiv rd ra rb) := legal_r3 (by decide) (by decide) rd ra rb
theorem gfexp (rd ra : Reg) : Statement (.gfexp rd ra) := legal_r2 (by decide) (by decide) rd ra
theorem gflog (rd ra : Reg) : Statement (.gflog rd ra) := legal_r2 (by decide) (by decide) rd ra
theorem dpushi (imm8 : Byte) : Statement (.dpushi imm8) := legal_i8 (by decide) (by decide) imm8
theorem dpush (rs : Reg) : Statement (.dpush rs) := legal_r1 (by decide) (by decide) rs
theorem ldd (rd : Reg) (addr16 : BitVec 16) : Statement (.ldd rd addr16) := legal_ra (by decide) (by decide) rd addr16
theorem lde (rd : Reg) (addr16 : BitVec 16) : Statement (.lde rd addr16) := legal_ra (by decide) (by decide) rd addr16
theorem ldo (rd : Reg) (addr16 : BitVec 16) : Statement (.ldo rd addr16) := legal_ra (by decide) (by decide) rd addr16
theorem ldg (rd : Reg) (addr16 : BitVec 16) : Statement (.ldg rd addr16) := legal_ra (by decide) (by decide) rd addr16
theorem rsgen (imm16 : BitVec 16) : Statement (.rsgen imm16) := legal_i16 (by decide) (by decide) imm16
theorem rsenc (imm16 : BitVec 16) : Statement (.rsenc imm16) := legal_i16 (by decide) (by decide) imm16
theorem ilayout : Statement .ilayout := legal_n (by decide) (by decide)
theorem ilv : Statement .ilv := legal_n (by decide) (by decide)
theorem onext (rd : Reg) : Statement (.onext rd) := legal_r1 (by decide) (by decide) rd

end Sys2Proof.Laws.LegalEncoding
end

