-- ==== Sys2Proof/Laws/Tables.lean ====
section
/-! SUPPORT. The two tables written out, as 95_test_vectors.md section 2 lists them, and that the loop of `GFINIT`
(40_gf_engine.md R78) builds exactly these. Reads of the written-out tables evaluate quickly. -/

namespace Sys2Proof.Machine

/-- EXP after `GFINIT`, copied from 95_test_vectors.md section 2.1. -/
def expTable : Memory := List.flatten [
  [(0, 0x01), (1, 0x02), (2, 0x04), (3, 0x08), (4, 0x10), (5, 0x20), (6, 0x40), (7, 0x80)],
  [(8, 0x1D), (9, 0x3A), (10, 0x74), (11, 0xE8), (12, 0xCD), (13, 0x87), (14, 0x13), (15, 0x26)],
  [(16, 0x4C), (17, 0x98), (18, 0x2D), (19, 0x5A), (20, 0xB4), (21, 0x75), (22, 0xEA), (23, 0xC9)],
  [(24, 0x8F), (25, 0x03), (26, 0x06), (27, 0x0C), (28, 0x18), (29, 0x30), (30, 0x60), (31, 0xC0)],
  [(32, 0x9D), (33, 0x27), (34, 0x4E), (35, 0x9C), (36, 0x25), (37, 0x4A), (38, 0x94), (39, 0x35)],
  [(40, 0x6A), (41, 0xD4), (42, 0xB5), (43, 0x77), (44, 0xEE), (45, 0xC1), (46, 0x9F), (47, 0x23)],
  [(48, 0x46), (49, 0x8C), (50, 0x05), (51, 0x0A), (52, 0x14), (53, 0x28), (54, 0x50), (55, 0xA0)],
  [(56, 0x5D), (57, 0xBA), (58, 0x69), (59, 0xD2), (60, 0xB9), (61, 0x6F), (62, 0xDE), (63, 0xA1)],
  [(64, 0x5F), (65, 0xBE), (66, 0x61), (67, 0xC2), (68, 0x99), (69, 0x2F), (70, 0x5E), (71, 0xBC)],
  [(72, 0x65), (73, 0xCA), (74, 0x89), (75, 0x0F), (76, 0x1E), (77, 0x3C), (78, 0x78), (79, 0xF0)],
  [(80, 0xFD), (81, 0xE7), (82, 0xD3), (83, 0xBB), (84, 0x6B), (85, 0xD6), (86, 0xB1), (87, 0x7F)],
  [(88, 0xFE), (89, 0xE1), (90, 0xDF), (91, 0xA3), (92, 0x5B), (93, 0xB6), (94, 0x71), (95, 0xE2)],
  [(96, 0xD9), (97, 0xAF), (98, 0x43), (99, 0x86), (100, 0x11), (101, 0x22), (102, 0x44), (103, 0x88)],
  [(104, 0x0D), (105, 0x1A), (106, 0x34), (107, 0x68), (108, 0xD0), (109, 0xBD), (110, 0x67), (111, 0xCE)],
  [(112, 0x81), (113, 0x1F), (114, 0x3E), (115, 0x7C), (116, 0xF8), (117, 0xED), (118, 0xC7), (119, 0x93)],
  [(120, 0x3B), (121, 0x76), (122, 0xEC), (123, 0xC5), (124, 0x97), (125, 0x33), (126, 0x66), (127, 0xCC)],
  [(128, 0x85), (129, 0x17), (130, 0x2E), (131, 0x5C), (132, 0xB8), (133, 0x6D), (134, 0xDA), (135, 0xA9)],
  [(136, 0x4F), (137, 0x9E), (138, 0x21), (139, 0x42), (140, 0x84), (141, 0x15), (142, 0x2A), (143, 0x54)],
  [(144, 0xA8), (145, 0x4D), (146, 0x9A), (147, 0x29), (148, 0x52), (149, 0xA4), (150, 0x55), (151, 0xAA)],
  [(152, 0x49), (153, 0x92), (154, 0x39), (155, 0x72), (156, 0xE4), (157, 0xD5), (158, 0xB7), (159, 0x73)],
  [(160, 0xE6), (161, 0xD1), (162, 0xBF), (163, 0x63), (164, 0xC6), (165, 0x91), (166, 0x3F), (167, 0x7E)],
  [(168, 0xFC), (169, 0xE5), (170, 0xD7), (171, 0xB3), (172, 0x7B), (173, 0xF6), (174, 0xF1), (175, 0xFF)],
  [(176, 0xE3), (177, 0xDB), (178, 0xAB), (179, 0x4B), (180, 0x96), (181, 0x31), (182, 0x62), (183, 0xC4)],
  [(184, 0x95), (185, 0x37), (186, 0x6E), (187, 0xDC), (188, 0xA5), (189, 0x57), (190, 0xAE), (191, 0x41)],
  [(192, 0x82), (193, 0x19), (194, 0x32), (195, 0x64), (196, 0xC8), (197, 0x8D), (198, 0x07), (199, 0x0E)],
  [(200, 0x1C), (201, 0x38), (202, 0x70), (203, 0xE0), (204, 0xDD), (205, 0xA7), (206, 0x53), (207, 0xA6)],
  [(208, 0x51), (209, 0xA2), (210, 0x59), (211, 0xB2), (212, 0x79), (213, 0xF2), (214, 0xF9), (215, 0xEF)],
  [(216, 0xC3), (217, 0x9B), (218, 0x2B), (219, 0x56), (220, 0xAC), (221, 0x45), (222, 0x8A), (223, 0x09)],
  [(224, 0x12), (225, 0x24), (226, 0x48), (227, 0x90), (228, 0x3D), (229, 0x7A), (230, 0xF4), (231, 0xF5)],
  [(232, 0xF7), (233, 0xF3), (234, 0xFB), (235, 0xEB), (236, 0xCB), (237, 0x8B), (238, 0x0B), (239, 0x16)],
  [(240, 0x2C), (241, 0x58), (242, 0xB0), (243, 0x7D), (244, 0xFA), (245, 0xE9), (246, 0xCF), (247, 0x83)],
  [(248, 0x1B), (249, 0x36), (250, 0x6C), (251, 0xD8), (252, 0xAD), (253, 0x47), (254, 0x8E)]]

/-- LOG after `GFINIT`, copied from 95_test_vectors.md section 2.2. -/
def logTable : Memory := List.flatten [
  [(1, 0x00), (2, 0x01), (3, 0x19), (4, 0x02), (5, 0x32), (6, 0x1A), (7, 0xC6), (8, 0x03)],
  [(9, 0xDF), (10, 0x33), (11, 0xEE), (12, 0x1B), (13, 0x68), (14, 0xC7), (15, 0x4B), (16, 0x04)],
  [(17, 0x64), (18, 0xE0), (19, 0x0E), (20, 0x34), (21, 0x8D), (22, 0xEF), (23, 0x81), (24, 0x1C)],
  [(25, 0xC1), (26, 0x69), (27, 0xF8), (28, 0xC8), (29, 0x08), (30, 0x4C), (31, 0x71), (32, 0x05)],
  [(33, 0x8A), (34, 0x65), (35, 0x2F), (36, 0xE1), (37, 0x24), (38, 0x0F), (39, 0x21), (40, 0x35)],
  [(41, 0x93), (42, 0x8E), (43, 0xDA), (44, 0xF0), (45, 0x12), (46, 0x82), (47, 0x45), (48, 0x1D)],
  [(49, 0xB5), (50, 0xC2), (51, 0x7D), (52, 0x6A), (53, 0x27), (54, 0xF9), (55, 0xB9), (56, 0xC9)],
  [(57, 0x9A), (58, 0x09), (59, 0x78), (60, 0x4D), (61, 0xE4), (62, 0x72), (63, 0xA6), (64, 0x06)],
  [(65, 0xBF), (66, 0x8B), (67, 0x62), (68, 0x66), (69, 0xDD), (70, 0x30), (71, 0xFD), (72, 0xE2)],
  [(73, 0x98), (74, 0x25), (75, 0xB3), (76, 0x10), (77, 0x91), (78, 0x22), (79, 0x88), (80, 0x36)],
  [(81, 0xD0), (82, 0x94), (83, 0xCE), (84, 0x8F), (85, 0x96), (86, 0xDB), (87, 0xBD), (88, 0xF1)],
  [(89, 0xD2), (90, 0x13), (91, 0x5C), (92, 0x83), (93, 0x38), (94, 0x46), (95, 0x40), (96, 0x1E)],
  [(97, 0x42), (98, 0xB6), (99, 0xA3), (100, 0xC3), (101, 0x48), (102, 0x7E), (103, 0x6E), (104, 0x6B)],
  [(105, 0x3A), (106, 0x28), (107, 0x54), (108, 0xFA), (109, 0x85), (110, 0xBA), (111, 0x3D), (112, 0xCA)],
  [(113, 0x5E), (114, 0x9B), (115, 0x9F), (116, 0x0A), (117, 0x15), (118, 0x79), (119, 0x2B), (120, 0x4E)],
  [(121, 0xD4), (122, 0xE5), (123, 0xAC), (124, 0x73), (125, 0xF3), (126, 0xA7), (127, 0x57), (128, 0x07)],
  [(129, 0x70), (130, 0xC0), (131, 0xF7), (132, 0x8C), (133, 0x80), (134, 0x63), (135, 0x0D), (136, 0x67)],
  [(137, 0x4A), (138, 0xDE), (139, 0xED), (140, 0x31), (141, 0xC5), (142, 0xFE), (143, 0x18), (144, 0xE3)],
  [(145, 0xA5), (146, 0x99), (147, 0x77), (148, 0x26), (149, 0xB8), (150, 0xB4), (151, 0x7C), (152, 0x11)],
  [(153, 0x44), (154, 0x92), (155, 0xD9), (156, 0x23), (157, 0x20), (158, 0x89), (159, 0x2E), (160, 0x37)],
  [(161, 0x3F), (162, 0xD1), (163, 0x5B), (164, 0x95), (165, 0xBC), (166, 0xCF), (167, 0xCD), (168, 0x90)],
  [(169, 0x87), (170, 0x97), (171, 0xB2), (172, 0xDC), (173, 0xFC), (174, 0xBE), (175, 0x61), (176, 0xF2)],
  [(177, 0x56), (178, 0xD3), (179, 0xAB), (180, 0x14), (181, 0x2A), (182, 0x5D), (183, 0x9E), (184, 0x84)],
  [(185, 0x3C), (186, 0x39), (187, 0x53), (188, 0x47), (189, 0x6D), (190, 0x41), (191, 0xA2), (192, 0x1F)],
  [(193, 0x2D), (194, 0x43), (195, 0xD8), (196, 0xB7), (197, 0x7B), (198, 0xA4), (199, 0x76), (200, 0xC4)],
  [(201, 0x17), (202, 0x49), (203, 0xEC), (204, 0x7F), (205, 0x0C), (206, 0x6F), (207, 0xF6), (208, 0x6C)],
  [(209, 0xA1), (210, 0x3B), (211, 0x52), (212, 0x29), (213, 0x9D), (214, 0x55), (215, 0xAA), (216, 0xFB)],
  [(217, 0x60), (218, 0x86), (219, 0xB1), (220, 0xBB), (221, 0xCC), (222, 0x3E), (223, 0x5A), (224, 0xCB)],
  [(225, 0x59), (226, 0x5F), (227, 0xB0), (228, 0x9C), (229, 0xA9), (230, 0xA0), (231, 0x51), (232, 0x0B)],
  [(233, 0xF5), (234, 0x16), (235, 0xEB), (236, 0x7A), (237, 0x75), (238, 0x2C), (239, 0xD7), (240, 0x4F)],
  [(241, 0xAE), (242, 0xD5), (243, 0xE9), (244, 0xE6), (245, 0xE7), (246, 0xAD), (247, 0xE8), (248, 0x74)],
  [(249, 0xD6), (250, 0xF4), (251, 0xEA), (252, 0xA8), (253, 0x50), (254, 0x58), (255, 0xAF)]]

/-- R74, R78: the loop builds the tables of section 2. -/
theorem builtTables_exp : builtTables.1 = expTable := by decide +kernel

/-- The same, for LOG. -/
theorem builtTables_log : builtTables.2 = logTable := by decide +kernel

end Sys2Proof.Machine
end

