-- ==== Sys2Proof/Tests/Slice0.lean ====
section
/-! SUPPORT. The model's own tests. Expected values come from spec/ (95_test_vectors.md unless a comment names another file),
worked by hand where a comment says so. First well-formedness and decoding, then one or two single-command tests for each
command, then the host interface, the assembler, and last a witness for each statement that has hypotheses. -/

open Sys2Proof Sys2Proof.Machine Sys2Proof.Claims

namespace Sys2Proof.Tests

-- one theorem at a time: each kernel evaluation in parallel would reserve a stack of its own
set_option Elab.async false

/-! ### Helpers -/

/-- The next state of an outcome, if it is one. -/
def after (o : Host.Outcome State Fault Refusal) : Option State :=
  match o with
  | .next s => some s
  | .fault _ => none
  | .refused _ => none

/-- The next state of a command, if it gives one. -/
def ran (i : Instr) (s : State) : Option State := after (exec i s)

/-- The state after reset with the tables built. -/
def built : State := { State.reset with exp := expTable, log := logTable, tv := true }

/-- `s` with `g1 = a` and `g2 = b`. -/
def pair (s : State) (a b : Byte) : State := (s.setReg 1 a).setReg 2 b

/-- `s` with the data bytes `d` in DMEM. -/
def withData (s : State) (d : List Byte) : State := { s with dmem := Memory.fill d, dlen := BitVec.ofNat 16 d.length }

/-- `s` with a configuration. -/
def config (s : State) (t d n : Nat) : State :=
  { s with cfgT := BitVec.ofNat 16 t, cfgD := BitVec.ofNat 16 d, cfgN := BitVec.ofNat 16 n }

/-- FAULT, CAUSE, FCMD, FSEQ and CSEQ of a next state. -/
def record (o : Option State) : Option (Bool × BitVec 4 × Word × Word × Word) :=
  o.map fun s => (s.fault, s.cause, s.fcmd, s.fseq, s.cseq)

/-- CAUSE of a next state. -/
def causeOf (o : Option State) : Option (BitVec 4) := o.map (·.cause)

/-- The layout registers G1B, G2B, G1T, G2T, G1D, G2D, ECB and LV of a next state. -/
def layoutRegs (o : Option State) : Option (List Nat × Bool) :=
  o.map fun s =>
    ([s.g1b.toNat, s.g2b.toNat, s.g1t.toNat, s.g2t.toNat, s.g1d.toNat, s.g2d.toNat, s.ecb.toNat], s.lv)

/-- The bytes of a space, in index order. -/
def bytes (sp : Space) (o : Option State) : Option (List Byte) := o.map fun s => (s.space sp).map Prod.snd

/-- The reason a word is refused by the decoder. -/
def reason (w : Word) : Option IllegalReason :=
  match decode w with
  | .ok _ => none
  | .error e => some e

/-! ### Well-formedness: one ill-formed word for each check (30_encoding.md section 9) -/

theorem test_wellFormed_accepts :
    ([0x02000000, 0x1030008E, 0x12123000, 0x14070000, 0x08020004, 0x200000EC, 0x21500000, 0x25200011, 0x3100000D,
      0x39000000, 0x3A400000] : List Word).all (fun w => WellFormed.wellFormedWord w && WellFormed.legalWord w) = true := by
  decide

theorem test_wellFormed_refuses_undefined_opcode :
    WellFormed.opcodeDefined 0x04000000 = false ∧ WellFormed.wellFormedWord 0x04000000 = false := by decide

theorem test_wellFormed_refuses_reserved_bit :
    WellFormed.reservedClear 0x02000001 = false ∧ WellFormed.wellFormedWord 0x02000001 = false := by decide

theorem test_wellFormed_refuses_register_field :
    WellFormed.registersInRange 0x12923000 = false ∧ WellFormed.wellFormedWord 0x12923000 = false := by decide

theorem test_wellFormed_refuses_csr :
    WellFormed.csrWritable 0x08030000 = false ∧ WellFormed.wellFormedWord 0x08030000 = false := by decide

theorem test_params_legal : Config.qrec.legal = true ∧ ({ Config.qrec with emax := 254 }).legal = false := by decide

/-! ### Decoding: a word for every constructor, laid out by hand from R51 and R55 -/

-- bits 31..24 the opcode, bits 23..0 zero
theorem test_decode_format_n :
    decodeTableWord 32 0x00000000 = some .nop ∧ decodeTableWord 32 0x01000000 = some .beginEncode ∧
    decodeTableWord 32 0x02000000 = some .gfinit ∧ decodeTableWord 32 0x03000000 = some .gffin ∧
    decodeTableWord 32 0x38000000 = some .ilayout ∧ decodeTableWord 32 0x39000000 = some .ilv := by decide

-- opcode 0001_00xx, rd 0001, ra 0010, rb 0011, twelve zeros
theorem test_decode_format_r3 :
    decodeTableWord 32 0b00010001000100100011000000000000 = some (.gfadd 1 2 3) ∧
    decodeTableWord 32 0b00010010000100100011000000000000 = some (.gfmul 1 2 3) ∧
    decodeTableWord 32 0b00010011011100000101000000000000 = some (.gfdiv 7 0 5) := by decide

-- opcode, rd, ra, sixteen zeros
theorem test_decode_format_r2 :
    decodeTableWord 32 0b00010100000001110000000000000000 = some (.gfexp 0 7) ∧
    decodeTableWord 32 0b00010101011000100000000000000000 = some (.gflog 6 2) := by decide

-- opcode, r, twenty zeros
theorem test_decode_format_r1 :
    decodeTableWord 32 0b00100001010100000000000000000000 = some (.dpush 5) ∧
    decodeTableWord 32 0b00111010010000000000000000000000 = some (.onext 4) := by decide

-- opcode, rd, twelve zeros, imm8; opcode, sixteen zeros, imm8
theorem test_decode_format_ri_i8 :
    decodeTableWord 32 0b00010000001100000000000010001110 = some (.li 3 0x8E) ∧
    decodeTableWord 32 0b00100000000000000000000011101100 = some (.dpushi 236) := by decide

-- opcode, rd, four zeros, addr16
theorem test_decode_format_ra :
    decodeTableWord 32 0b00100100000100000000000000000010 = some (.ldd 1 2) ∧
    decodeTableWord 32 0b00100101001000000000000000010001 = some (.lde 2 17) ∧
    decodeTableWord 32 0b00100110000000001111111111111111 = some (.ldo 0 0xFFFF) ∧
    decodeTableWord 32 0b00100111010100000000000000001101 = some (.ldg 5 13) := by decide

-- opcode, csr, imm16
theorem test_decode_format_ci :
    decodeTableWord 32 0b00001000000000000000000000011010 = some (.csrwT 26) ∧
    decodeTableWord 32 0b00001000000000011111111111111111 = some (.csrwD 0xFFFF) ∧
    decodeTableWord 32 0b00001000000000100000000000000100 = some (.csrwN 4) := by decide

-- opcode, eight zeros, imm16
theorem test_decode_format_i16 :
    decodeTableWord 32 0b00110000000000001000000000000000 = some (.rsgen 0x8000) ∧
    decodeTableWord 32 0b00110001000000001111111111111111 = some (.rsenc 0xFFFF) := by decide

-- section 4.5, the words that fault IllegalCommand
theorem test_decode_undefined_opcodes :
    ([0x04000000, 0x07FFFFFF, 0xFFFFFFFF, 0x3B000000] : List Word).map reason =
      List.replicate 4 (some .undefinedOpcode) := by decide

theorem test_decode_reserved_bits :
    ([0x00000001, 0x01800000, 0x02000001, 0x1030018E, 0x1031008E, 0x12123001, 0x14070100, 0x20000100, 0x21500001,
      0x24010000, 0x38000001, 0x3A400010, 0x31010002] : List Word).map reason =
      List.replicate 13 (some .reservedBits) := by decide

theorem test_decode_register_fields :
    ([0x1080008E, 0x12923000, 0x12183000, 0x1212F000, 0x21800000, 0x24800000] : List Word).map reason =
      List.replicate 6 (some .registerField) := by decide

theorem test_decode_csr_numbers :
    ([0x08030000, 0x08070001, 0x08FF0000] : List Word).map reason = List.replicate 3 (some .csrNotWritable) := by decide

-- RSENC -1, GFMUL g1, g2, g3, LDG g5, 13: section 9 of 30_encoding.md, program P2
theorem test_encode :
    encode (.rsenc 0xFFFF) = 0x3100FFFF ∧ encode (.gfmul 1 2 3) = 0x12123000 ∧ encode (.ldg 5 13) = 0x2750000D ∧
    encode (.csrwN 4) = 0x08020004 := by decide

/-! ### The field (sections 2 and 3) -/

-- 255 entries each, no EXP[255] and no LOG[0] (R31, R32); the values are those of section 2.3
theorem test_tables :
    builtTables.1.map Prod.fst = List.range 255 ∧ builtTables.2.map Prod.fst = List.range' 1 255 ∧
    ([0, 1, 7, 8, 9, 25, 254] : List Nat).map (Memory.read builtTables.1) =
      [some 0x01, some 0x02, some 0x80, some 0x1D, some 0x3A, some 0x03, some 0x8E] ∧
    ([0x01, 0x02, 0x03, 0x1D, 0x8E, 0xFF] : List Nat).map (Memory.read builtTables.2) =
      [some 0x00, some 0x01, some 0x19, some 0x08, some 0xFE, some 0xAF] := by
  rw [builtTables_exp, builtTables_log]; decide +kernel

-- R72, and the products of section 4.1
theorem test_xtime : xtime 0x80 = 0x1D ∧ xtime 0x8E = 0x01 ∧ xtime 0x40 = 0x80 := by decide

theorem test_fmul :
    fmul 0x02 0x80 = 0x1D ∧ fmul 0x8E 0x02 = 0x01 ∧ fmul 0xFF 0xFF = 0xE2 ∧ fmul 0x53 0xCA = 0x8F ∧
    fmul 0x57 0x83 = 0x31 ∧ fmul 0x37 0x00 = 0x00 := by decide +kernel

-- section 3, stored lowest degree first
theorem test_reference_generator :
    refGenerator 2 = [0x02, 0x03, 0x01] ∧ refGenerator 7 = [0x75, 0x44, 0x0B, 0xA4, 0x9A, 0x7A, 0x7F, 0x01] := by
  decide +kernel

/-! ### Galois-field commands (section 4.1) -/

theorem test_gfinit :
    (ran .gfinit State.reset).map (fun s => (s.status, s.cseq, s.readByte .exp 8, s.readByte .log 0x1D)) =
      some (0x00000001, 1, some 0x1D, some 8) := by decide +kernel

theorem test_gfinit_again : ran .gfinit built = some { built with cseq := 1 } := by decide +kernel

theorem test_gffin :
    (ran .gffin built).map (fun s => (s.status, s.exp, s.log, s.cseq)) = some (0x00000000, [], [], 1) := by decide +kernel

theorem test_gffin_without_tables : ran .gffin State.reset = some { State.reset with cseq := 1 } := by decide

theorem test_li : (ran (.li 3 0x8E) State.reset).map (fun s => (s.reg 3, s.reg 2, s.cseq)) = some (0x8E, 0x00, 1) := by
  decide

theorem test_gfadd : (ran (.gfadd 0 1 2) (pair State.reset 0x53 0xCA)).map (·.reg 0) = some 0x99 := by decide

theorem test_gfadd_source_is_destination :
    (ran (.gfadd 1 1 1) (pair State.reset 0xA5 0xA5)).map (fun s => (s.reg 1, s.reg 2)) = some (0x00, 0xA5) := by decide

theorem test_gfmul : (ran (.gfmul 0 1 2) (pair built 0xFF 0xFF)).map (·.reg 0) = some 0xE2 := by decide +kernel

-- a zero operand does not avoid the fault
theorem test_gfmul_without_tables :
    record (ran (.gfmul 0 1 1) { State.reset with cseq := 2 }) = some (true, 7, 0x12011000, 2, 2) := by decide

-- program P1: 1 / 53 = 8C; the dividend is the second operand
theorem test_gfdiv :
    (ran (.gfdiv 3 1 2) (pair built 0x01 0x53)).map (·.reg 3) = some 0x8C ∧
    (ran (.gfdiv 0 1 2) (pair built 0x1D 0x80)).map (·.reg 0) = some 0x02 := by decide +kernel

theorem test_gfdiv_by_zero :
    record (ran (.gfdiv 0 1 2) { pair built 0x05 0x00 with cseq := 3 }) = some (true, 4, 0x13012000, 3, 3) ∧
    causeOf (ran (.gfdiv 0 1 2) (pair built 0x00 0x00)) = some 4 := by decide +kernel

theorem test_gfexp :
    (ran (.gfexp 0 1) (pair built 0x19 0)).map (·.reg 0) = some 0x03 ∧
    (ran (.gfexp 0 1) (pair built 0xFE 0)).map (·.reg 0) = some 0x8E ∧
    (ran (.gfexp 0 1) (pair built 0xFF 0)).map (·.reg 0) = some 0x01 := by decide +kernel

theorem test_gflog : (ran (.gflog 0 1) (pair built 0x55 0)).map (·.reg 0) = some 0x96 := by decide +kernel

theorem test_gflog_of_zero :
    causeOf (ran (.gflog 0 1) built) = some 4 ∧ causeOf (ran (.gflog 0 1) State.reset) = some 7 := by decide +kernel

/-! ### Reed-Solomon commands (section 4.2) -/

theorem test_rsgen :
    (ran (.rsgen 7) built).map (fun s => (s.gen.map Prod.snd, s.gdeg, s.elen)) =
      some ([0x75, 0x44, 0x0B, 0xA4, 0x9A, 0x7A, 0x7F, 0x01], 7, 0) := by decide +kernel

theorem test_rsgen_counts :
    causeOf (ran (.rsgen 0) built) = some 4 ∧ causeOf (ran (.rsgen 0x8000) built) = some 4 ∧
    causeOf (ran (.rsgen 0x7FFF) built) = some 9 ∧ causeOf (ran (.rsgen 0) State.reset) = some 7 := by decide +kernel

/-- The data bytes of HELLO WORLD at version 1-Q size. -/
def hello : List Byte := [0x20, 0x5B, 0x0B, 0x78, 0xD1, 0x72, 0xDC, 0x4D, 0x43, 0x40, 0xEC, 0x11, 0xEC]

/-- Their 13 EC bytes. -/
def helloEc : List Byte := [0xA8, 0x48, 0x16, 0x52, 0xD9, 0x36, 0x9C, 0x00, 0x2E, 0x0F, 0xB4, 0x7A, 0x10]

theorem test_rsenc :
    (ran (.rsenc 13) (withData built hello)).map (fun s => (s.emem.map Prod.snd, s.elen, s.gdeg, s.dlen)) =
      some (helloEc, 13, 13, 13) := by decide +kernel

theorem test_rsenc_no_data_and_bounds :
    bytes .emem (ran (.rsenc 3) built) = some [0x00, 0x00, 0x00] ∧
    record (ran (.rsenc 0x100) (withData built [0x12, 0x34, 0x56])) = some (true, 9, 0x31000100, 0, 0) := by
  decide +kernel

-- R95: the syndromes of the codeword
theorem test_syndromes :
    (List.range 13).map (fun i => horner (hello ++ helloEc) (alphaPow i)) = List.replicate 13 0x00 := by decide +kernel

/-! ### Interleaver and sequencer commands (section 4.3) -/

theorem test_ilayout :
    layoutRegs (ran .ilayout (config State.reset 134 62 4)) = some ([2, 2, 33, 34, 15, 16, 18], true) ∧
    layoutRegs (ran .ilayout (config State.reset 65535 0 1)) = some ([1, 0, 65535, 65536, 0, 1, 65535], true) := by decide

theorem test_ilayout_refused :
    causeOf (ran .ilayout (config State.reset 10 12 2)) = some 6 ∧
    causeOf (ran .ilayout (config State.reset 10 4 0)) = some 6 ∧
    layoutRegs (ran .ilayout (config State.reset 3 1 5)) = some ([0, 0, 0, 0, 0, 0, 0], false) := by decide

/-- Program P4 just before its `ILV`: three blocks of two sizes. -/
def threeBlocks : State := withData (config built 13 7 3) [0x10, 0x20, 0x30, 0x40, 0x50, 0x60, 0x70]

/-- OMEM after it. -/
def threeBlocksOut : List Byte := [0x10, 0x30, 0x50, 0x20, 0x40, 0x60, 0x70, 0x10, 0x50, 0xBA, 0x20, 0x20, 0xFA]

theorem test_ilv_buffers :
    bytes .omem (ran .ilv threeBlocks) = some threeBlocksOut ∧
    bytes .emem (ran .ilv threeBlocks) = some [0x10, 0x20, 0x50, 0x20, 0xBA, 0xFA] ∧
    bytes .gen (ran .ilv threeBlocks) = some [0x02, 0x03, 0x01] := by decide +kernel

theorem test_ilv_registers :
    layoutRegs (ran .ilv threeBlocks) = some ([2, 1, 4, 5, 2, 3, 2], true) ∧
    (ran .ilv threeBlocks).map (fun s => (s.olen, s.elen, s.gdeg, s.optr)) = some (13, 6, 2, 0) ∧
    (ran .ilv threeBlocks).map (·.status) = some 0x00000005 := by decide +kernel

theorem test_ilv_faults :
    causeOf (ran .ilv (withData (config State.reset 10 4 0) [1, 2, 3, 4])) = some 7 ∧
    causeOf (ran .ilv (config built 5000 5000 1)) = some 6 ∧
    causeOf (ran .ilv (config built 5000 100 1)) = some 9 ∧
    causeOf (ran .ilv (config built 600 100 1)) = some 9 ∧
    causeOf (ran .ilv (withData (config built 9 7 3) [1, 2, 3, 4, 5, 6, 7])) = some 3 := by decide +kernel

/-- A state with results in EMEM, OMEM and GEN as `ILV` leaves them after program P4's data. -/
def results : State :=
  { State.reset with
    dmem := Memory.fill [0x10, 0x20, 0x30, 0x40, 0x50, 0x60, 0x70], dlen := 7,
    emem := Memory.fill [0x10, 0x20, 0x50, 0x20, 0xBA, 0xFA], elen := 6,
    omem := Memory.fill threeBlocksOut, olen := 13, optr := 12,
    gen := Memory.fill [0x02, 0x03, 0x01], gdeg := 2 }

theorem test_onext : (ran (.onext 4) results).map (fun s => (s.reg 4, s.optr)) = some (0xFA, 13) := by decide

theorem test_onext_exhausted :
    (ran (.onext 5) { results with optr := 13 }).map (fun s => (s.cause, s.optr, s.fcmd)) = some (9, 13, 0x3A500000) := by
  decide

/-! ### Buffer and control commands (section 4.4) -/

theorem test_nop : ran .nop State.reset = some { State.reset with cseq := 1 } := by decide

theorem test_begin :
    ran .beginEncode { results with fault := true, cause := 9, fcmd := 0x3A500000, fseq := 15, cseq := 15 } =
      some { State.reset with cseq := 16 } := by decide

theorem test_begin_keeps_tables_and_registers :
    (ran .beginEncode (pair { built with dlen := 1, dmem := [(0, 0x20)] } 0x53 0xCA)).map
        (fun s => (s.tv, s.readByte .exp 8, s.reg 1, s.dlen, s.readByte .dmem 0)) =
      some (true, some 0x1D, 0x53, 0, none) := by decide +kernel

theorem test_csrwT : (ran (.csrwT 26) State.reset).map (fun s => (s.cfgT, s.cfgD, s.cfgN)) = some (26, 0, 0) := by decide

theorem test_csrwD : (ran (.csrwD 0xFFFF) State.reset).map (fun s => (s.cfgT, s.cfgD, s.cfgN)) = some (0, 65535, 0) := by
  decide

-- the same value again clears LV and leaves the layout registers
theorem test_csrwN :
    (ran (.csrwN 1) { config State.reset 26 13 1 with lv := true, g1b := 1, g1t := 26 }).map
        (fun s => (s.cfgN, s.status, s.g1b, s.g1t)) = some (1, 0x00000000, 1, 26) := by decide

theorem test_dpushi :
    (ran (.dpushi 0xFF) (withData State.reset [0x20, 0xAB])).map (fun s => (s.dmem, s.dlen)) =
      some ([(0, 0x20), (1, 0xAB), (2, 0xFF)], 3) := by decide

theorem test_dpushi_full :
    (ran (.dpushi 1) { State.reset with dlen := 4096 }).map (fun s => (s.cause, s.dlen)) = some (9, 4096) ∧
    (ran (.dpushi 1) { State.reset with dlen := 4095 }).map (fun s => (s.cause, s.dlen)) = some (0, 4096) := by decide

theorem test_dpush :
    (ran (.dpush 5) ((withData State.reset [0x20]).setReg 5 0xAB)).map (fun s => (s.dmem, s.dlen)) =
      some ([(0, 0x20), (1, 0xAB)], 2) := by decide

theorem test_ldd :
    (ran (.ldd 1 2) (withData State.reset [0x20, 0xAB, 0xFF])).map (·.reg 1) = some 0xFF ∧
    record (ran (.ldd 2 3) { withData State.reset [0x20, 0xAB, 0xFF] with cseq := 10 }) =
      some (true, 9, 0x24200003, 10, 10) := by decide

theorem test_lde :
    (ran (.lde 2 4) results).map (·.reg 2) = some 0xBA ∧ causeOf (ran (.lde 2 6) results) = some 9 := by decide

theorem test_ldo :
    (ran (.ldo 1 9) results).map (fun s => (s.reg 1, s.optr)) = some (0xBA, 12) ∧
    causeOf (ran (.ldo 1 13) results) = some 9 ∧ causeOf (ran (.ldo 0 0xFFFF) results) = some 9 := by decide

theorem test_ldg :
    ([0, 1, 2] : List (BitVec 16)).map (fun a => (ran (.ldg 0 a) results).map (·.reg 0)) =
      [some 0x02, some 0x03, some 0x01] ∧
    causeOf (ran (.ldg 0 3) results) = some 9 ∧ causeOf (ran (.ldg 0 0) State.reset) = some 9 := by decide

/-! ### Issue, reset, host reads (section 4.5; 60_exceptions.md R154; 70_reset_and_hazards.md R170, R176) -/

-- 0x12923000 with TV = 0: IllegalCommand, not TablesNotReady
theorem test_issue_illegal :
    record (after (issue 0x12923000 { State.reset with cseq := 1 })) = some (true, 8, 0x12923000, 1, 1) := by decide

/-- The faulted state of section 4.5's table, without its tables. -/
def dividedByZero : State :=
  { pair State.reset 5 0 with tv := true, fault := true, cause := 4, fcmd := 0x13012000, fseq := 3, cseq := 3 }

theorem test_issue_while_faulted :
    ([0x10000077, 0x00000000, 0x03000000, 0x04000000, 0x01000001, 0x13012000] : List Word).map
        (fun w => after (issue w dividedByZero)) = List.replicate 6 (some dividedByZero) ∧
    (after (issue 0x01000000 dividedByZero)).map (fun s => (s.status, s.cause, s.fcmd, s.fseq, s.cseq)) =
      some (0x00000001, 0, 0, 0, 4) := by decide

theorem test_step_idle : after (step results) = some results := by decide

theorem test_step_reset : after (step { dividedByZero with input := [.reset] }) = some State.reset := by decide

theorem test_step_runs_placed_word :
    (after (step (State.reset.withFetchWord 32 0x1030008E))).map (fun s => (s.reg 3, s.cseq, s.input)) =
      some (0x8E, 1, []) := by decide

theorem test_host_reads :
    results.hostRead (.csr 0x0A) = some 13 ∧ results.hostRead (.byte .gen 2) = some 0x01 ∧
    results.hostRead (.byte .gen 3) = none ∧ results.hostRead (.byte .omem 13) = none ∧
    results.hostRead (.csr 0x0D) = none ∧ results.hostRead (.reg 8) = none ∧
    built.hostRead (.byte .exp 255) = none ∧ built.hostRead (.byte .log 0) = none ∧
    built.hostRead (.byte .exp 254) = some 0x8E := by decide +kernel

theorem test_status : dividedByZero.hostRead (.csr 3) = some 0x00000003 ∧ dividedByZero.faultOut = true := by decide

/-! ### Assembler (30_encoding.md R60, R61 and section 9) -/

theorem test_assemble_words :
    assembleWords "LI g3, 0x8E" = some [0x1030008E] ∧ assembleWords "GFMUL g1, g2, g3" = some [0x12123000] ∧
    assembleWords "CSRW CFG_N, 4" = some [0x08020004] ∧ assembleWords "DPUSHI 236" = some [0x200000EC] ∧
    assembleWords "RSENC -1 ; negative" = some [0x3100FFFF] ∧ assembleWords "ONEXT g4" = some [0x3A400000] := by
  decide +kernel

theorem test_assemble_lines :
    assemble "GFINIT\nCSRW 0, 26\n\nLDE g2, 17" = some [.gfinit, .csrwT 26, .lde 2 17] ∧
    assemble "LI g8, 1" = none ∧ assemble "LI g1, 256" = none := by decide +kernel

theorem test_assemble_pseudo :
    assemble "SETT 134\nSETD 62\nSETN 4\nGFSUB g0, g1, g2\nDATA 0x10, 0x20" =
      some [.csrwT 134, .csrwD 62, .csrwN 4, .gfadd 0 1 2, .dpushi 0x10, .dpushi 0x20] := by decide +kernel

/-! ### Witnesses: for each statement with hypotheses, states and operands that meet them -/

/-- A command that gives a next state, from what that state shows. -/
theorem runs {i : Instr} {s : State} {α : Type} {f : State → α} {b : α} (h : (ran i s).map f = some b) :
    ∃ t, exec i s = .next t ∧ f t = b := by
  unfold ran after at h
  split at h
  · next t ht => exact ⟨t, ht, by simpa using h⟩
  · cases h
  · cases h

/-- The same, for a step. -/
theorem steps {s : State} {α : Type} {f : State → α} {b : α} (h : (after (step s)).map f = some b) :
    ∃ t, step s = .next t ∧ f t = b := by
  unfold after at h
  split at h
  · next t ht => exact ⟨t, ht, by simpa using h⟩
  · cases h
  · cases h

/-- The state with the tables meets what `GFINIT` promises. -/
theorem built_tables : built.TablesBuilt := by decide +kernel

/-- The state with the tables meets the invariants. -/
theorem built_inv : built.Inv where
  sizes := by decide
  noRecord := by decide
  cause := by decide
  seq := by decide
  dlen := by decide
  elen := by decide
  olen := by decide
  optr := by decide
  gdeg := by decide
  dmem := by decide
  emem := by decide
  omem := by decide
  gen := by decide
  tables := fun _ => ⟨builtTables_exp.symm, builtTables_log.symm⟩
  noTables := by decide
  layout := fun h => absurd h (by decide)

/-- Program P4 just before its `ILV` meets the invariants. -/
theorem threeBlocks_inv : threeBlocks.Inv where
  sizes := by decide
  noRecord := by decide
  cause := by decide
  seq := by decide
  dlen := by decide
  elen := by decide
  olen := by decide
  optr := by decide
  gdeg := by decide
  dmem := by decide
  emem := by decide
  omem := by decide
  gen := by decide
  tables := fun _ => ⟨builtTables_exp.symm, builtTables_log.symm⟩
  noTables := by decide
  layout := fun h => absurd h (by decide)

/-- A faulted state after an `ILV`, everything in use: buffers, layout, `OPTR` at its bound, `CSEQ` at its last value. -/
def worn : State :=
  { config results 13 7 3 with
    optr := 13, lv := true, g1b := 2, g2b := 1, g1t := 4, g2t := 5, g1d := 2, g2d := 3, ecb := 2,
    fault := true, cause := 9, fcmd := 0x3A500000, fseq := 0xFFFFFFFF, cseq := 0xFFFFFFFF }

theorem worn_inv : worn.Inv where
  sizes := by decide
  noRecord := by decide
  cause := by decide
  seq := by decide
  dlen := by decide
  elen := by decide
  olen := by decide
  optr := by decide
  gdeg := by decide
  dmem := by decide
  emem := by decide
  omem := by decide
  gen := by decide +kernel
  tables := by decide
  noTables := by decide
  layout := fun _ =>
    ⟨{ g1b := 2, g2b := 1, g1t := 4, g2t := 5, g1d := 2, g2d := 3, ecb := 2 }, rfl, by decide⟩

/-- DMEM full. -/
def fullData : State := { State.reset with dmem := Memory.fill (List.replicate 4096 0x00), dlen := 4096 }

theorem fullData_inv : fullData.Inv where
  sizes := by decide
  noRecord := by decide
  cause := by decide
  seq := by decide
  dlen := by decide
  elen := by decide
  olen := by decide
  optr := by decide
  gdeg := by decide
  dmem := by unfold Memory.holdsFirst; rw [fullData, Memory.map_fst_fill, List.length_replicate]; rfl
  emem := by decide
  omem := by decide
  gen := by decide
  tables := by decide
  noTables := by decide
  layout := fun h => absurd h (by decide)

/-- An engine of the least sizes R3 allows meets the invariants at reset. -/
theorem least_inv : (State.resetOf ⟨1, 1, 1, 1⟩).Inv where
  sizes := by decide
  noRecord := by decide
  cause := by decide
  seq := by decide
  dlen := by decide
  elen := by decide
  olen := by decide
  optr := by decide
  gdeg := by decide
  dmem := by decide
  emem := by decide
  omem := by decide
  gen := by decide
  tables := by decide
  noTables := by decide
  layout := fun h => absurd h (by decide)

/-! ### Other sizes (00_scope.md R3): the same commands in engines built with other parameters -/

/-- The least sizes R3 allows. -/
def least : Config.Params := { dmax := 1, emax := 1, omax := 1, rmax := 1 }

/-- The greatest sizes R3 allows. -/
def greatest : Config.Params := { dmax := 65535, emax := 65535, omax := 65535, rmax := 32767 }

theorem test_legal_sizes :
    Config.qrec.legal = true ∧ least.legal = true ∧ greatest.legal = true ∧
    ({ least with dmax := 0 } : Config.Params).legal = false ∧ ({ least with rmax := 2 } : Config.Params).legal = false ∧
    ({ greatest with rmax := 32768 } : Config.Params).legal = false ∧
    ({ greatest with omax := 65536 } : Config.Params).legal = false := by decide

-- R123: a push is refused at DMAX and taken below it.
theorem test_push_other_dmax :
    (ran (.dpushi 7) (State.resetOf least)).map (fun t => (t.fault, t.dlen)) = some (false, 1) ∧
    (ran (.dpushi 7) (withData (State.resetOf least) [1])).map (fun t => (t.cause, t.dlen)) = some (9, 1) ∧
    (ran (.dpushi 7) { fullData with sizes := greatest }).map (fun t => (t.fault, t.dlen)) = some (false, 4097) := by
  decide +kernel

-- R93, R94: a count above RMAX faults with cause 9, RMAX itself does not.
theorem test_count_other_rmax :
    (ran (.rsgen 1) { built with sizes := least }).map (fun t => (t.fault, t.gdeg)) = some (false, 1) ∧
    (ran (.rsgen 2) { built with sizes := least }).map (fun t => t.cause) = some 9 ∧
    (ran (.rsenc 2) { built with sizes := least }).map (fun t => t.cause) = some 9 := by decide +kernel

-- R108: 13 codewords and 6 EC bytes of 2 per block fit in exactly those sizes, and in none smaller by one.
theorem test_ilv_other_sizes :
    (ran .ilv { threeBlocks with sizes := ⟨7, 6, 13, 2⟩ }).map (fun t => (t.fault, t.olen, t.elen)) = some (false, 13, 6) ∧
    (ran .ilv { threeBlocks with sizes := ⟨7, 6, 12, 2⟩ }).map (fun t => t.cause) = some 9 ∧
    (ran .ilv { threeBlocks with sizes := ⟨7, 5, 13, 2⟩ }).map (fun t => t.cause) = some 9 ∧
    (ran .ilv { threeBlocks with sizes := ⟨7, 6, 13, 1⟩ }).map (fun t => t.cause) = some 9 := by decide +kernel

theorem witness_ResetMeetsTheInvariants : least.legal = true ∧ greatest.legal = true := by decide

theorem witness_DecodingFollowsTheOpcodeMap :
    decode 0x3A700000 = .ok (.onext 7) ∧ (⟨0x3A000000, 0xFF8FFFFF⟩ : WellFormed.Row) ∈ WellFormed.opcodeMap ∧
    (⟨0x3A000000, 0xFF8FFFFF⟩ : WellFormed.Row).admits 0x3A700000 = true := ⟨rfl, by decide, by decide⟩

theorem witness_IllegalWordsFault :
    decode 0x04000000 = .error .undefinedOpcode ∧ decode 0x02000001 = .error .reservedBits ∧
    decode 0x12923000 = .error .registerField ∧ decode 0x08030000 = .error .csrNotWritable ∧
    (State.reset.presentWord 0x08030000).input = [.command 0x08030000] ∧
    (State.reset.presentWord 0x08030000).fault = false := ⟨rfl, rfl, rfl, rfl, rfl, rfl⟩

theorem witness_StepRunsTheDecodedCommand :
    (worn.presentWord 0x1030008E).input = .command 0x1030008E :: [] ∧ decode 0x1030008E = .ok (.li 3 0x8E) ∧
    worn.input = [] := ⟨rfl, rfl, rfl⟩

theorem witness_IssueProcedure :
    (worn.presentWord 0x01000000).fault = true ∧ (worn.presentWord 0x01000001).fault = true ∧
    ((State.reset.presentWord 0x04000000).fault = false ∧ decode 0x04000000 = .error .undefinedOpcode) ∧
    (State.reset.presentWord 0).fault = false ∧ decode 0 = .ok .nop ∧
    (∃ t, step (State.reset.presentWord 0) = .next t ∧ (t.fault, t.cseq) = (false, 1)) ∧
    (∃ t, step (State.reset.presentWord 0x04000000) = .next t ∧ t.fault = true) :=
  ⟨rfl, rfl, ⟨rfl, rfl⟩, rfl, rfl, steps rfl, steps rfl⟩

/-- For FaultEntryIsPrecise: a step that faults, of a legal and of an illegal word. -/
theorem witness_FaultEntryIsPrecise :
    (∃ t, step (State.reset.presentWord 0x12000000) = .next t ∧ (t.fault, t.cause) = (true, 7)) ∧
    (∃ t, step (State.reset.presentWord 0xFFFFFFFF) = .next t ∧ (t.fault, t.cause) = (true, 8)) := ⟨steps rfl, steps rfl⟩

/-- For FaultEntryIsPrecise and CausesByCommand: each cause a decoded command can raise. -/
theorem witness_faults :
    (∃ t, exec .ilv (withData (config built 13 7 3) [1]) = .next t ∧ (t.fault, t.cause) = (true, 3)) ∧
    (∃ t, exec (.gfdiv 0 1 2) built = .next t ∧ (t.fault, t.cause) = (true, 4)) ∧
    (∃ t, exec (.gflog 0 0) built = .next t ∧ (t.fault, t.cause) = (true, 4)) ∧
    (∃ t, exec (.rsenc 0) built = .next t ∧ (t.fault, t.cause) = (true, 4)) ∧
    (∃ t, exec .ilayout State.reset = .next t ∧ (t.fault, t.cause) = (true, 6)) ∧
    (∃ t, exec (.gfexp 0 0) State.reset = .next t ∧ (t.fault, t.cause) = (true, 7)) ∧
    (∃ t, exec (.dpushi 0) fullData = .next t ∧ (t.fault, t.cause) = (true, 9)) ∧
    (∃ t, exec (.ldd 0 0) State.reset = .next t ∧ (t.fault, t.cause) = (true, 9)) :=
  ⟨runs (by decide +kernel), runs (by decide +kernel), runs (by decide +kernel), runs (by decide +kernel),
   runs (by decide), runs (by decide), runs (by decide), runs (by decide)⟩

theorem witness_FaultedEngineDiscards :
    worn.fault = true ∧ (worn.presentWord 0x01000001).input = .command 0x01000001 :: [] ∧
    (0x01000001 : Word) ≠ 0x01000000#32 ∧ Instr.nop ≠ .beginEncode := by decide

theorem witness_FaultLeftOnlyByBeginOrReset :
    (∃ t, step (worn.presentWord 0x01000000) = .next t ∧ t.fault = false) ∧
    (∃ t, step { worn with input := [.reset] } = .next t ∧ t.fault = false) ∧
    (∃ t, step (worn.presentWord 0) = .next t ∧ t.fault = true) ∧ (∃ t, step worn = .next t ∧ t.fault = true) :=
  ⟨steps rfl, steps rfl, steps rfl, steps rfl⟩

/-- For CommandCounterCountsCompletions: a completion that wraps `CSEQ`, and a fault. -/
theorem witness_CommandCounterCountsCompletions :
    (∃ t, exec .beginEncode worn = .next t ∧ (t.fault, t.cseq) = (false, 0)) ∧
    (∃ t, exec (.ldd 0 0) State.reset = .next t ∧ (t.fault, t.cseq) = (true, 0)) := ⟨runs rfl, runs rfl⟩

theorem witness_FlagsChangeOnlyAsListed :
    (∃ t, exec .gfinit State.reset = .next t ∧ t.tv = true) ∧ (∃ t, exec .gffin built = .next t ∧ t.tv = false) ∧
    (∃ t, exec (.gfmul 0 0 0) State.reset = .next t ∧ t.fault = true) ∧
    (∃ t, exec .beginEncode worn = .next t ∧ (t.fault, t.lv) = (false, false)) ∧
    (∃ t, exec .ilayout (config State.reset 1 0 1) = .next t ∧ (t.fault, t.lv) = (false, true)) ∧
    (∃ t, exec .ilv threeBlocks = .next t ∧ (t.fault, t.lv) = (false, true)) ∧
    (∃ t, exec (.csrwN 3) { worn with fault := false } = .next t ∧ t.lv = false) :=
  ⟨runs rfl, runs rfl, runs rfl, runs rfl, runs (by decide), runs (by decide +kernel), runs rfl⟩

theorem witness_NoCommandReadsLv : ∃ t, exec .ilayout (config State.reset 26 13 1) = .next t ∧ t.lv = true :=
  runs (by decide)

/-- For OnlyTheDestinationRegisterChanges: another register, no destination, and the destination of a faulting command. -/
theorem witness_OnlyTheDestinationRegisterChanges :
    (∃ t, exec (.li 3 1) State.reset = .next t ∧ t.fault = false) ∧ destination (.li 3 1) ≠ some 2 ∧
    (∃ t, exec .nop State.reset = .next t ∧ t.fault = false) ∧ destination .nop ≠ some 0 ∧
    (∃ t, exec (.onext 5) State.reset = .next t ∧ t.fault = true) :=
  ⟨runs rfl, by decide, runs rfl, by decide, runs rfl⟩

theorem witness_ControlRegistersChangeOnlyAsListed :
    (∃ t, exec (.csrwT 26) State.reset = .next t ∧ (t.csr 0, t.csr 7) = (some 26, some 1)) ∧
    (∃ t, exec .ilayout (config State.reset 26 13 1) = .next t ∧ (t.csr 0x10, t.csr 0x16) = (some 1, some 13)) ∧
    (∃ t, exec (.gfmul 0 0 0) State.reset = .next t ∧ (t.csr 4, t.csr 5) = (some 7, some 0x12000000)) ∧
    State.reset.csr 4 = some 0 :=
  ⟨runs (by decide), runs (by decide), runs (by decide), rfl⟩

theorem witness_SpacesChangeOnlyAsListed :
    (∃ t, exec (.dpushi 7) { State.reset with dlen := 4095 } = .next t ∧ t.readByte .dmem 4095 = some 7) ∧
    (∃ t, exec .gfinit State.reset = .next t ∧ t.readByte .exp 0 = some 1) ∧
    (∃ t, exec (.rsgen 1) built = .next t ∧ t.readByte .gen 0 = some 1) ∧
    (∃ t, exec .beginEncode worn = .next t ∧ t.readByte .omem 12 = none) ∧ State.reset.readByte .dmem 4095 = none :=
  ⟨runs (by decide), runs (by decide +kernel), runs (by decide +kernel), runs (by decide), rfl⟩

theorem witness_TablesAreReadOnlyWhileValid :
    ∃ t, step (built.presentWord 0x02000000) = .next t ∧ (t.tv, t.cseq) = (true, 1) := steps rfl

/-- For StepsKeepTheInvariants: a step from each of five states that meet them, one in an engine of other sizes. -/
theorem witness_StepsKeepTheInvariants :
    ((State.resetOf least).Inv ∧ ∃ t, step ((State.resetOf least).presentWord 0x200000EC) = .next t ∧ t.dlen = 1) ∧
    (fullData.Inv ∧ ∃ t, step fullData = .next t ∧ t.dlen = 4096) ∧
    (worn.Inv ∧ ∃ t, step worn = .next t ∧ t.fault = true) ∧ (built.Inv ∧ ∃ t, step built = .next t ∧ t.tv = true) ∧
    (threeBlocks.Inv ∧ ∃ t, step threeBlocks = .next t ∧ t.dlen = 7) :=
  ⟨⟨least_inv, steps rfl⟩, ⟨fullData_inv, steps rfl⟩, ⟨worn_inv, steps rfl⟩, ⟨built_inv, steps rfl⟩, ⟨threeBlocks_inv, steps rfl⟩⟩

/-- The invariants do not speak of the host's input. -/
theorem inv_input {s : State} (h : s.Inv) (l : List HostInput) : State.Inv { s with input := l } where
  sizes := h.sizes
  noRecord := h.noRecord
  cause := h.cause
  seq := h.seq
  dlen := h.dlen
  elen := h.elen
  olen := h.olen
  optr := h.optr
  gdeg := h.gdeg
  dmem := h.dmem
  emem := h.emem
  omem := h.omem
  gen := h.gen
  tables := h.tables
  noTables := h.noTables
  layout := h.layout

/-- For EveryWordHasAnOutcome: a word that completes, one that faults, one that is discarded. -/
theorem witness_EveryWordHasAnOutcome :
    ((built.presentWord 0x39000000).Inv ∧ (built.presentWord 0x39000000).input = [.command 0x39000000]) ∧
    ((threeBlocks.presentWord 0x39000000).Inv ∧ (threeBlocks.presentWord 0x39000000).input = [.command 0x39000000]) ∧
    ((worn.presentWord 0).Inv ∧ (worn.presentWord 0).input = [.command 0]) :=
  ⟨⟨inv_input built_inv _, rfl⟩, ⟨inv_input threeBlocks_inv _, rfl⟩, ⟨inv_input worn_inv _, rfl⟩⟩

theorem witness_StepsKeepSpacesCanonical :
    worn.Canonical ∧ ∃ t, step (worn.presentWord 0x01000000) = .next t ∧ t.fault = false :=
  ⟨fun sp => by cases sp <;> decide, steps rfl⟩

theorem witness_ResetInputResets : ({ worn with input := [.reset, .command 0] } : State).input = .reset :: [.command 0] := rfl

theorem witness_GffinThenBeginIsNearlyReset : built.Inv ∧ built.fault = false := ⟨built_inv, rfl⟩

theorem witness_ResetValues : (7 : Nat) < 8 ∧ (0x0C : Nat) ≤ 0x0C ∧ (0x10 : Nat) ≤ 0x10 ∧ (0x16 : Nat) ≤ 0x16 := by decide

theorem witness_HostReads :
    built.validIndex .exp 254 = true ∧ built.validIndex .log 1 = true ∧ built.validIndex .log 255 = true ∧
    worn.validIndex .dmem 6 = true ∧ worn.validIndex .emem 5 = true ∧ worn.validIndex .omem 12 = true ∧
    worn.validIndex .gen 2 = true ∧ (8 : Nat) ≤ 8 ∧ (254 : Nat) < 255 ∧ (255 : Nat) < 256 ∧ worn.tv = false ∧ worn.dlen.toNat ≤ 7 ∧ worn.elen.toNat ≤ 6 ∧
    worn.olen.toNat ≤ 13 ∧ worn.gdeg.toNat < 3 ∧ State.reset.gdeg = 0 := by decide

theorem witness_AlphaHasOrder255 : (254 : Nat) < 255 ∧ alphaPow 254 = alphaPow 254 ∧ (0x01 : Byte) ≠ 0x00#8 :=
  ⟨by decide, rfl, by decide⟩

theorem witness_FieldArithmeticLaws :
    gfmul builtTables.1 builtTables.2 0x00 0x37 = some 0 ∧ (0xFF : Byte) ≠ 0 ∧ alphaPow 0 = 0x01 ∧ alphaPow 254 = 0x8E :=
  ⟨rfl, by decide, rfl, by decide +kernel⟩

/-- For GfinitBuildsTheTables and GffinTearsTheTablesDown: both values of `TV`. -/
theorem witness_tables_commands :
    State.reset.fault = false ∧ State.reset.tv = false ∧ built.fault = false ∧ built.tv = true ∧
    worn.fault = true := ⟨rfl, rfl, rfl, rfl, rfl⟩

/-- For LiLoadsAByte, GfaddAdds, NopOnlyCounts: no fault latched. -/
theorem witness_not_faulted : State.reset.fault = false ∧ built.fault = false := ⟨rfl, rfl⟩

/-- For NopOnlyCounts and BeginStartsAFreshEncode: a fault latched, and the least and the greatest of the other words. -/
theorem witness_other_words :
    worn.fault = true ∧ (0x000001 : BitVec 24) ≠ 0 ∧ (0xFFFFFF : BitVec 24) ≠ 0 ∧ Instr.nop ≠ .beginEncode ∧
    (worn.presentWord (0x01#8 ++ 0xFFFFFF#24)).input = .command (0x01#8 ++ 0xFFFFFF#24) :: [] := by decide

/-- For GfmulMultiplies: no tables; tables and a zero operand on either side; tables and two nonzero operands. -/
theorem witness_GfmulMultiplies :
    (State.reset.fault = false ∧ State.reset.tv = false) ∧ (pair built 0x00 0xFF).TablesBuilt ∧
    (pair built 0x00 0xFF).reg 1 = 0 ∧ (pair built 0xFF 0x00).reg 2 = 0 ∧
    ((pair built 0x01 0xFF).reg 1 ≠ 0 ∧ (pair built 0x01 0xFF).reg 2 ≠ 0) :=
  ⟨⟨rfl, rfl⟩, built_tables, rfl, rfl, by decide⟩

/-- For GfdivDivides: no tables; a zero divisor; a zero and a nonzero dividend over a nonzero divisor. -/
theorem witness_GfdivDivides :
    (State.reset.fault = false ∧ State.reset.tv = false) ∧ (built.tv = true ∧ (pair built 0xFF 0x00).reg 2 = 0) ∧
    (pair built 0x00 0xFF).TablesBuilt ∧ ((pair built 0x00 0xFF).reg 2 ≠ 0 ∧ (pair built 0x00 0xFF).reg 1 = 0) ∧
    ((pair built 0xFF 0x01).reg 2 ≠ 0 ∧ (pair built 0xFF 0x01).reg 1 ≠ 0) :=
  ⟨⟨rfl, rfl⟩, ⟨rfl, rfl⟩, built_tables, by decide, by decide⟩

theorem witness_GfexpReadsThePower :
    (State.reset.fault = false ∧ State.reset.tv = false) ∧ (pair built 0xFF 0xFE).TablesBuilt := ⟨⟨rfl, rfl⟩, built_tables⟩

theorem witness_GflogReadsTheLogarithm :
    (State.reset.fault = false ∧ State.reset.tv = false) ∧ (built.tv = true ∧ built.reg 1 = 0) ∧
    (pair built 0x01 0xFF).TablesBuilt ∧ (pair built 0x01 0xFF).reg 1 ≠ 0 ∧ (pair built 0x01 0xFF).reg 2 ≠ 0 :=
  ⟨⟨rfl, rfl⟩, ⟨rfl, rfl⟩, built_tables, by decide, by decide⟩

-- also for GeneratorIsProductOfRoots; R92's example: x^2 = 1 * (x^2 + 3x + 2) + (3x + 2)
theorem witness_EcBytesAreTheRemainder : (1 : Nat) ≤ 2 ∧ IsRemainder [0x01] [0x03, 0x02] 2 :=
  ⟨by decide, rfl, [0x01], rfl, by decide +kernel⟩

theorem witness_CodewordsHaveZeroSyndromes :
    (1 : Nat) ≤ 2 ∧ generator builtTables.1 builtTables.2 2 = some [0x02, 0x03, 0x01] ∧
    remainder builtTables.1 builtTables.2 [0x12, 0x34, 0x56] [0x02, 0x03, 0x01] = some [0x98, 0xE8] ∧ (1 : Nat) < 2 := by
  rw [builtTables_exp, builtTables_log]; decide +kernel

/-- For RsgenBuildsTheGenerator and RsencEncodesTheDataBuffer: counts at the edges of each range. -/
theorem witness_counts :
    (0x0000 : BitVec 16).toInt ≤ 0 ∧ (0x8000 : BitVec 16).toInt ≤ 0 ∧ (0xFFFF : BitVec 16).toInt ≤ 0 ∧
    (built.sizes.rmax : Int) < (0x0100 : BitVec 16).toInt ∧ (built.sizes.rmax : Int) < (0x7FFF : BitVec 16).toInt ∧
    (0 < (0x0001 : BitVec 16).toInt ∧ (0x0001 : BitVec 16).toInt ≤ built.sizes.rmax) ∧
    (0 < (0x00FF : BitVec 16).toInt ∧ (0x00FF : BitVec 16).toInt ≤ built.sizes.rmax) ∧
    (least.rmax : Int) < (0x0002 : BitVec 16).toInt ∧ (0x7FFF : BitVec 16).toInt ≤ greatest.rmax := by decide

theorem witness_RsgenBuildsTheGenerator :
    (State.reset.fault = false ∧ State.reset.tv = false) ∧ built.fault = false ∧ built.TablesBuilt :=
  ⟨⟨rfl, rfl⟩, rfl, built_tables⟩

/-- For RsencEncodesTheDataBuffer: no data byte, and thirteen. -/
theorem witness_RsencEncodesTheDataBuffer :
    built.TablesBuilt ∧ HoldsData built [] ∧ (withData built hello).TablesBuilt ∧ HoldsData (withData built hello) hello :=
  ⟨built_tables, by unfold HoldsData; decide, built_tables, by unfold HoldsData; decide⟩

/-- For EncodingIsDeterministic: two states with the same data, configuration and sizes that differ elsewhere, and one of other
sizes. -/
theorem witness_EncodingIsDeterministic :
    threeBlocks.TablesBuilt ∧ HoldsData threeBlocks [0x10, 0x20, 0x30, 0x40, 0x50, 0x60, 0x70] ∧
    (∃ t, exec (.rsenc 2) threeBlocks = .next t ∧ t.fault = false) ∧
    (∃ t, exec (.rsenc 2) { threeBlocks with cseq := 9, emem := [(0, 1)], elen := 1 } = .next t ∧ t.fault = false) ∧
    (∃ t, exec .ilv threeBlocks = .next t ∧ t.fault = false) ∧
    (∃ t, exec .ilv { threeBlocks with cseq := 9, emem := [(0, 1)], elen := 1 } = .next t ∧ t.fault = false) ∧
    threeBlocks.sizes = ({ threeBlocks with cseq := 9, emem := [(0, 1)], elen := 1 } : State).sizes ∧
    (∃ t, exec .ilv { threeBlocks with sizes := ⟨7, 6, 13, 2⟩ } = .next t ∧ t.fault = false) :=
  ⟨built_tables, by unfold HoldsData; decide, runs (by decide +kernel), runs (by decide +kernel), runs (by decide +kernel),
   runs (by decide +kernel), rfl, runs (by decide +kernel)⟩

/-- For IlayoutComputesTheLayout: the edges of the refused and of the accepted configurations. -/
theorem witness_IlayoutComputesTheLayout :
    badLayout 10 4 0 ∧ badLayout 26 26 1 ∧ badLayout 3 1 5 ∧ badLayout 0 0 1 ∧ ¬ badLayout 1 0 1 ∧ ¬ badLayout 65535 0 1 ∧
    ¬ badLayout 65535 65534 1 ∧ ¬ badLayout 65535 0 65535 := by unfold badLayout; decide

/-- For IlvInterleaves: each clause at an edge of its range. -/
theorem witness_IlvInterleaves :
    (State.reset.fault = false ∧ State.reset.tv = false) ∧ (built.tv = true ∧ badLayout 10 4 0) ∧
    (¬ badLayout 4097 4096 1 ∧ built.sizes.omax < 4097) ∧ (¬ badLayout 256 0 1 ∧ built.sizes.rmax < 256 / 1 - 0 / 1) ∧
    (¬ badLayout 2 0 2 ∧ least.emax < 2 * (2 / 2 - 0 / 2)) ∧
    (¬ badLayout 4096 4095 1 ∧ 4096 ≤ built.sizes.omax ∧ 1 * (4096 / 1 - 4095 / 1) ≤ built.sizes.emax ∧
      4096 / 1 - 4095 / 1 ≤ built.sizes.rmax ∧ (config built 4096 4095 1).dlen.toNat ≠ 4095) ∧
    (¬ badLayout 9 7 3 ∧ covered 9 7 3 ≠ 7) ∧
    (¬ badLayout 255 0 1 ∧ 255 / 1 - 0 / 1 ≤ built.sizes.rmax ∧ covered 255 0 1 = 0 ∧ HoldsData (config built 255 0 1) [] ∧
      (config built 255 0 1).TablesBuilt) ∧
    (¬ badLayout 13 7 3 ∧ covered 13 7 3 = 7 ∧ HoldsData threeBlocks [0x10, 0x20, 0x30, 0x40, 0x50, 0x60, 0x70] ∧
      threeBlocks.TablesBuilt) :=
  ⟨⟨rfl, rfl⟩, by unfold badLayout; decide, by unfold badLayout; decide, by unfold badLayout; decide,
   by unfold badLayout; decide, by unfold badLayout; decide, by unfold badLayout; decide,
   ⟨by unfold badLayout; decide, by decide, by decide, by unfold HoldsData; decide, built_tables⟩,
   ⟨by unfold badLayout; decide, by decide, by unfold HoldsData; decide, built_tables⟩⟩

/-- For OnextHandsOutTheNextCodeword: nothing built, the sequence exhausted, and its last codeword. -/
theorem witness_OnextHandsOutTheNextCodeword :
    State.reset.olen.toNat ≤ State.reset.optr.toNat ∧
    (({ results with optr := 13 } : State).olen.toNat ≤ ({ results with optr := 13 } : State).optr.toNat) ∧
    (results.optr.toNat < results.olen.toNat ∧ results.readByte .omem results.optr.toNat = some 0xFA) := by decide

/-- For IlvRoundTrip: an `ILV` that succeeds, and the last bytes of the last block. -/
theorem witness_IlvRoundTrip :
    threeBlocks.Inv ∧ (∃ u, exec .ilv threeBlocks = .next u ∧ u.fault = false) ∧ (2 < 3 ∧ 2 < blockLen 13 7 3 2) ∧
    (2 < 3 ∧ 1 < 2) := ⟨threeBlocks_inv, runs (by decide +kernel), by decide, by decide⟩

theorem witness_IlvSymbolInvariant :
    (∃ u, exec .ilv threeBlocks = .next u ∧ u.fault = false) ∧
    ∃ l r, threeBlocks.layout = .ok l ∧ l.covered = threeBlocks.cfgD.toNat ∧
      encodeBlocks threeBlocks.exp threeBlocks.log threeBlocks.dmem threeBlocks.cfgN.toNat l = some r :=
  ⟨runs (by decide +kernel), { g1b := 2, g2b := 1, g1t := 4, g2t := 5, g1d := 2, g2d := 3, ecb := 2 },
   { gen := [0x02, 0x03, 0x01], ec := [0x10, 0x20, 0x50, 0x20, 0xBA, 0xFA], out := threeBlocksOut }, rfl, by decide,
   by decide +kernel⟩

theorem witness_CsrwWritesTheConfiguration :
    2 < (0x03 : BitVec 8).toNat ∧ 2 < (0xFF : BitVec 8).toNat ∧ State.reset.fault = false := by decide

/-- For DpushiAppends and DpushAppendsARegister: DMEM full, and with room for one byte. -/
theorem witness_pushes :
    (fullData.fault = false ∧ fullData.sizes.dmax ≤ fullData.dlen.toNat) ∧
    (({ fullData with dlen := 4095 } : State).dlen.toNat < fullData.sizes.dmax) ∧
    ((State.resetOf least).dlen.toNat < (State.resetOf least).sizes.dmax) := by decide

/-- For the four loads: an index just past the valid bytes, and the last valid one. -/
theorem witness_loads :
    (results.dlen.toNat ≤ 7 ∧ 6 < results.dlen.toNat ∧ results.readByte .dmem 6 = some 0x70) ∧
    (results.elen.toNat ≤ 6 ∧ 5 < results.elen.toNat ∧ results.readByte .emem 5 = some 0xFA) ∧
    (results.olen.toNat ≤ 13 ∧ 12 < results.olen.toNat ∧ results.readByte .omem 12 = some 0xFA) ∧
    (State.reset.gdeg = 0 ∧ results.gdeg.toNat < 3 ∧ results.gdeg ≠ 0 ∧ 2 ≤ results.gdeg.toNat ∧
      results.readByte .gen 2 = some 0x01) := by decide

end Sys2Proof.Tests
end

section
/-! The field layer: the product without tables (40_gf_engine.md R73) is bilinear, powers of ALPHA add their
exponents, the tables of R74 compute it (R75, R86), and with them
the generator is the product of its roots (R91). -/

namespace Sys2Proof.Machine

/-! ### Linearity -/

/-- A chain of steps that is linear step by step is linear. -/
theorem foldl_xor {w : Nat} {α : Type} {f g h : BitVec w → α → BitVec w}
    (hf : ∀ p q a, f (p ^^^ q) a = g p a ^^^ h q a) (l : List α) (p q : BitVec w) :
    l.foldl f (p ^^^ q) = l.foldl g p ^^^ l.foldl h q := by
  induction l generalizing p q with
  | nil => rfl
  | cons a l ih => simp only [List.foldl_cons, hf, ih]

/-- Adding `c` to a sum under a sum of conditions is linear. -/
theorem addIf_xor {w : Nat} (x y : Bool) (c p q : BitVec w) :
    (if x ^^ y then p ^^^ q ^^^ c else p ^^^ q) = (if x then p ^^^ c else p) ^^^ (if y then q ^^^ c else q) := by
  cases x <;> cases y <;> simp only [Bool.xor_false, Bool.xor_true, Bool.not_true, Bool.not_false, if_true, if_false,
    Bool.false_eq_true]
  · exact BitVec.xor_assoc ..
  · ac_rfl
  · rw [BitVec.xor_assoc, BitVec.xor_comm q c, ← BitVec.xor_assoc c, BitVec.xor_self, BitVec.zero_xor]

/-- Clearing bit `i` with the polynomial `c`, the one step of every reduction (R72, R73), is linear. -/
theorem reduceBit_xor {w : Nat} (i : Nat) (c p q : BitVec w) :
    (if (p ^^^ q).getLsbD i then (p ^^^ q) ^^^ c else p ^^^ q) =
      (if p.getLsbD i then p ^^^ c else p) ^^^ (if q.getLsbD i then q ^^^ c else q) := by
  rw [BitVec.getLsbD_xor, addIf_xor]

theorem xtime_xor (a b : Byte) : xtime (a ^^^ b) = xtime a ^^^ xtime b := by
  simp only [xtime, BitVec.setWidth_xor, BitVec.shiftLeft_xor_distrib, reduceBit_xor]

theorem reduceProduct_xor (p q : BitVec 15) : reduceProduct (p ^^^ q) = reduceProduct p ^^^ reduceProduct q :=
  foldl_xor (fun _ _ i => reduceBit_xor i _ _ _) _ p q

theorem carrylessProduct_xor_left (a b c : Byte) :
    carrylessProduct (a ^^^ b) c = carrylessProduct a c ^^^ carrylessProduct b c := by
  refine foldl_xor (fun p q i => ?_) _ 0#15 0#15
  cases c.getLsbD i
  · rfl
  · simp only [if_true, BitVec.setWidth_xor, BitVec.shiftLeft_xor_distrib]; ac_rfl

theorem carrylessProduct_xor_right (a b c : Byte) :
    carrylessProduct a (b ^^^ c) = carrylessProduct a b ^^^ carrylessProduct a c := by
  refine foldl_xor (fun p q i => ?_) _ 0#15 0#15
  rw [BitVec.getLsbD_xor, addIf_xor]

theorem fmul_xor_left (a b c : Byte) : fmul (a ^^^ b) c = fmul a c ^^^ fmul b c := by
  simp only [fmul, carrylessProduct_xor_left, reduceProduct_xor, BitVec.setWidth_xor]

theorem fmul_xor_right (a b c : Byte) : fmul a (b ^^^ c) = fmul a b ^^^ fmul a c := by
  simp only [fmul, carrylessProduct_xor_right, reduceProduct_xor, BitVec.setWidth_xor]

/-- What holds of zero and of each single bit, and is kept by sums, holds of every byte. -/
theorem byte_induction {P : Byte → Prop} (zero : P 0x00#8) (bit : ∀ i, i < 8 → P (1#8 <<< i))
    (xor : ∀ a b, P a → P b → P (a ^^^ b)) (b : Byte) : P b := by
  have hsum : b = (List.range 8).foldl (fun p i => if b.getLsbD i then p ^^^ (1#8 <<< i) else p) 0x00#8 := by
    revert b; decide +kernel
  rw [hsum]
  refine List.foldlRecOn _ _ zero fun p hp i hi => ?_
  split
  · exact xor _ _ hp (bit i (List.mem_range.mp hi))
  · exact hp

theorem fmul_zero_left (b : Byte) : fmul 0x00#8 b = 0x00#8 := by simpa using fmul_xor_left 0 0 b

theorem fmul_zero_right (a : Byte) : fmul a 0x00#8 = 0x00#8 := by simpa using fmul_xor_right a 0 0

theorem fmul_one_right (a : Byte) : fmul a 0x01#8 = a := by
  induction a using byte_induction with
  | zero => decide
  | bit i hi => revert i; decide
  | xor a b ha hb => rw [fmul_xor_left, ha, hb]

/-- R72, R73: a product with ALPHA times `b` is ALPHA times the product. -/
theorem fmul_xtime (a b : Byte) : fmul a (xtime b) = xtime (fmul a b) := by
  induction b using byte_induction with
  | zero => rw [fmul_zero_right]; exact fmul_zero_right a
  | xor b c hb hc => rw [xtime_xor, fmul_xor_right, fmul_xor_right, xtime_xor, hb, hc]
  | bit j hj =>
    induction a using byte_induction with
    | zero => rw [fmul_zero_left, fmul_zero_left]; rfl
    | xor a b ha hb => rw [fmul_xor_left, fmul_xor_left, xtime_xor, ha, hb]
    | bit i hi => revert i j; decide +kernel

/-! ### Powers of ALPHA -/

theorem alphaPow_add (i j : Nat) : alphaPow (i + j) = fmul (alphaPow i) (alphaPow j) := by
  induction j with
  | zero => exact (fmul_one_right _).symm
  | succ j ih => rw [← Nat.add_assoc, alphaPow, alphaPow, fmul_xtime, ih]

/-- R71: ALPHA^255 = 1, so exponents count modulo 255. -/
theorem alphaPow_mod (i : Nat) : alphaPow (i % 255) = alphaPow i := by
  have h255 : ∀ k, alphaPow (255 * k) = 0x01#8 := by
    intro k
    induction k with
    | zero => rfl
    | succ k ih => rw [Nat.mul_succ, alphaPow_add, ih]; decide +kernel
  conv_rhs => rw [← Nat.mod_add_div i 255, alphaPow_add, h255, fmul_one_right]

/-! ### The tables -/

/-- R74: EXP holds the powers of ALPHA. -/
theorem read_builtTables_exp (i : Nat) : Memory.read builtTables.1 (i % 255) = some (alphaPow i) := by
  have hexp : ∀ i, i < 255 → Memory.read expTable i = some (alphaPow i) := by decide +kernel
  rw [builtTables_exp, hexp _ (Nat.mod_lt i (by decide)), alphaPow_mod]

/-- R74: LOG holds for each nonzero byte its exponent. -/
theorem read_builtTables_log (a : Byte) (ha : a ≠ 0x00#8) :
    ∃ i : Byte, Memory.read builtTables.2 a.toNat = some i ∧ alphaPow i.toNat = a := by
  have hlog : ∀ a : Byte, a ≠ 0x00#8 →
      (Memory.read logTable a.toNat).any (fun i => Memory.read expTable (i.toNat % 255) == some a) = true := by
    decide +kernel
  obtain ⟨i, hi, he⟩ := (Option.any_eq_true _ _).mp (hlog a ha)
  rw [beq_iff_eq, ← builtTables_exp, read_builtTables_exp, Option.some.injEq] at he
  exact ⟨i, builtTables_log ▸ hi, he⟩

/-- R86: the table product is the product without tables. -/
theorem gfmul_builtTables (a b : Byte) : gfmul builtTables.1 builtTables.2 a b = some (fmul a b) := by
  by_cases ha : a = 0x00#8
  · rw [ha, gfmul_zero_left, fmul_zero_left]
  by_cases hb : b = 0x00#8
  · rw [hb, gfmul_zero_right, fmul_zero_right]
  obtain ⟨i, hi, rfl⟩ := read_builtTables_log a ha
  obtain ⟨j, hj, rfl⟩ := read_builtTables_log b hb
  simp only [gfmul, ha, hb, or_self, if_false, hi, hj]
  rw [read_builtTables_exp, alphaPow_add]

/-! ### The generator polynomial -/

theorem polyAdd_nil_right (p : List Byte) : polyAdd p [] = p := by cases p <;> rfl

/-- A product by `root + x`, with `c` added at degree 0, coefficient by coefficient. -/
theorem polyAdd_polyMul_linear (root : Byte) (p : List Byte) (c : Byte) :
    polyAdd [c] (polyMul p [root, 0x01#8]) = List.zipWith gfadd (c :: p) (p.map (fmul · root) ++ [0x00#8]) := by
  induction p generalizing c with
  | nil => simp [polyMul, polyAdd, gfadd]
  | cons a p ih =>
    have ih := ih a
    simp only [polyMul, List.map_cons, List.map_nil, fmul_one_right, polyAdd, List.cons_append,
      List.zipWith_cons_cons] at ih ⊢
    simp [ih, gfadd]

/-- R91: one round of the generator's loop, with the tables of R74, multiplies by `root + x`. -/
theorem generatorRound_builtTables (c : Byte) (p : List Byte) (root : Byte) :
    generatorRound builtTables.1 builtTables.2 (c :: p) root = some (polyMul (c :: p) [root, 0x01#8]) := by
  have hprod : (c :: p).mapM (fun a => gfmul builtTables.1 builtTables.2 a root) =
      some ((c :: p).map (fmul · root)) := by
    simp only [gfmul_builtTables]; exact List.mapM_pure ..
  have hzero : polyAdd [0x00#8] (polyMul (c :: p) [root, 0x01#8]) = polyMul (c :: p) [root, 0x01#8] := by
    simp [polyMul, polyAdd, gfadd]
  rw [generatorRound, hprod, ← hzero, polyAdd_polyMul_linear]

/-- R91: `generator(r + 1)` is one more round. -/
theorem generator_succ (exp log : Memory) (r : Nat) :
    generator exp log (r + 1) =
      (generator exp log r).bind fun gen => (Memory.read exp (r % 255)).bind (generatorRound exp log gen) := by
  simp only [generator, List.range_succ, List.foldlM_append, List.foldlM_cons, List.foldlM_nil, bind_pure]
  congr 1; funext gen
  cases Memory.read exp (r % 255) <;> rfl

/-- R91: the generator built from the tables of R74 is the product of the roots. -/
theorem generator_builtTables (r : Nat) : generator builtTables.1 builtTables.2 r = some (refGenerator r) := by
  induction r with
  | zero => rfl
  | succ r ih =>
    obtain ⟨c, p, hp⟩ := List.exists_cons_of_length_eq_add_one (generator_length ih)
    rw [generator_succ, ih, read_builtTables_exp, Option.bind_some, Option.bind_some, hp, generatorRound_builtTables,
      refGenerator, hp]

theorem refGenerator_length (r : Nat) : (refGenerator r).length = r + 1 := generator_length (generator_builtTables r)

end Sys2Proof.Machine
end

section
/-! The commands that complete, grouped by the update they make, and the outcomes of a command and of a step. -/

open Sys2Proof.Claims

namespace Sys2Proof.Machine

/-- `u` is the state the completing command `i` leaves from `s` before the completion is counted, one case per kind of update.
`exec_outcome` ties it to `exec`. -/
inductive Completes (s : State) : Instr → State → Prop where
  | nop : Completes s .nop s
  | beginEncode : Completes s .beginEncode s.startEncode
  | gfinitAgain (htv : s.tv = true) : Completes s .gfinit s
  | gfinit : Completes s .gfinit (s.setTables builtTables.1 builtTables.2)
  | gffinAgain (htv : s.tv = false) : Completes s .gffin s
  | gffin : Completes s .gffin s.dropTables
  | csrwT (v : BitVec 16) : Completes s (.csrwT v) (s.setCfgT v)
  | csrwD (v : BitVec 16) : Completes s (.csrwD v) (s.setCfgD v)
  | csrwN (v : BitVec 16) : Completes s (.csrwN v) (s.setCfgN v)
  | register {i : Instr} {rd : Reg} (hrd : destination i = some rd) (v : Byte) : Completes s i (s.setReg rd v)
  | onext (rd : Reg) (v : Byte) (hlt : s.optr < s.olen) : Completes s (.onext rd) (s.setReg rd v).advanceOptr
  | dpushi (v : Byte) (hlt : s.dlen.toNat < s.sizes.dmax) : Completes s (.dpushi v) (s.pushData v)
  | dpush (rs : Reg) (hlt : s.dlen.toNat < s.sizes.dmax) : Completes s (.dpush rs) (s.pushData (s.reg rs))
  | rsgen {v : BitVec 16} {r : Nat} {gen : List Byte} (htv : s.tv = true) (hpos : 0 < r) (hmax : r ≤ s.sizes.rmax)
      (hgen : generator s.exp s.log r = some gen) : Completes s (.rsgen v) (s.setGenerator gen r)
  | rsenc {v : BitVec 16} {r : Nat} {gen d ec : List Byte} (htv : s.tv = true) (hpos : 0 < r) (hmax : r ≤ s.sizes.rmax)
      (hgen : generator s.exp s.log r = some gen) (hec : remainder s.exp s.log d gen = some ec) :
      Completes s (.rsenc v) ((s.setGenerator gen r).setEc ec r)
  | ilayout {l : Layout} (hl : s.layout = .ok l) : Completes s .ilayout (s.setLayout l)
  | ilv {l : Layout} {r : Interleaved} (htv : s.tv = true) (hl : s.layout = .ok l) (homax : s.cfgT.toNat ≤ s.sizes.omax)
      (hemax : s.cfgN.toNat * l.ecb ≤ s.sizes.emax) (hrmax : l.ecb ≤ s.sizes.rmax)
      (henc : encodeBlocks s.exp s.log s.dmem s.cfgN.toNat l = some r) (hout : r.out.length = s.cfgT.toNat) :
      Completes s .ilv
        ((((s.setLayout l).setGenerator r.gen l.ecb).setEc r.ec (s.cfgN.toNat * l.ecb)).setOutput r.out s.cfgT.toNat)

/-- What a rule commits is one of the updates. -/
theorem Commits.completes {s u : State} {i : Instr} (h : Commits s u i) : Completes s i u := by
  have register {rd : Reg} (hrd : destination i = some rd) (hv : ∃ v, u = s.setReg rd v) : Completes s i u := by
    obtain ⟨v, rfl⟩ := hv
    exact .register hrd v
  have count {v : BitVec 16} (h0 : 0 < signedCount v) (h1 : signedCount v ≤ s.sizes.rmax) :
      0 < (signedCount v).toNat ∧ (signedCount v).toNat ≤ s.sizes.rmax := by omega
  cases i
  case nop => cases h; exact .nop
  case beginEncode => cases h; exact .beginEncode
  case gfinit =>
    cases htv : s.tv <;> simp only [Commits, htv, if_true, Bool.false_eq_true, if_false] at h <;> subst h
    · exact .gfinit
    · exact .gfinitAgain htv
  case gffin =>
    cases htv : s.tv <;> simp only [Commits, htv, if_true, Bool.false_eq_true, if_false] at h <;> subst h
    · exact .gffinAgain htv
    · exact .gffin
  case csrwT v => cases h; exact .csrwT v
  case csrwD v => cases h; exact .csrwD v
  case csrwN v => cases h; exact .csrwN v
  case dpushi v => obtain ⟨hlt, rfl⟩ := h; exact .dpushi v hlt
  case dpush rs => obtain ⟨hlt, rfl⟩ := h; exact .dpush rs hlt
  case onext rd => obtain ⟨hlt, v, -, rfl⟩ := h; exact .onext rd v hlt
  case rsgen v =>
    obtain ⟨htv, h0, h1, gen, hgen, rfl⟩ := h
    obtain ⟨hpos, hmax⟩ := count h0 h1
    exact .rsgen htv hpos hmax hgen
  case rsenc v =>
    obtain ⟨htv, h0, h1, gen, d, ec, hgen, -, hec, rfl⟩ := h
    obtain ⟨hpos, hmax⟩ := count h0 h1
    exact .rsenc htv hpos hmax hgen hec
  case ilayout => obtain ⟨l, hl, rfl⟩ := h; exact .ilayout hl
  case ilv =>
    obtain ⟨htv, l, r, hl, homax, hemax, hrmax, -, -, henc, hout, rfl⟩ := ilvEffect_commit.mp h
    exact .ilv htv hl homax hemax hrmax henc hout
  case li rd v => exact register rfl ⟨v, h⟩
  case gfadd rd ra rb => exact register rfl ⟨_, h⟩
  case gfdiv | gflog => obtain ⟨-, -, v, -, h⟩ := h; exact register rfl ⟨v, h⟩
  case gfmul | gfexp | ldd | lde | ldo | ldg => obtain ⟨-, v, -, h⟩ := h; exact register rfl ⟨v, h⟩

/-- A completing command keeps what no command but `BEGIN` and the fault entry write, `CSEQ` before it is counted, and the
model's own fields; no fault is latched after it. -/
theorem Completes.keeps {s u : State} {i : Instr} (h : Completes s i u) (hf : i ≠ .beginEncode → s.fault = false) :
    u.fault = false ∧ u.cseq = s.cseq ∧ u.input = s.input ∧ u.sizes = s.sizes := by
  cases h
  case beginEncode => exact ⟨rfl, rfl, rfl, rfl⟩
  case register hrd => exact ⟨hf (by rintro rfl; simp [destination] at hrd), rfl, rfl, rfl⟩
  all_goals exact ⟨hf (by simp), rfl, rfl, rfl⟩

/-- The outcomes of a command (R154): discarded, completed, or turned into a fault entry. -/
theorem exec_outcome {i : Instr} {s t : State} (h : exec i s = .next t) :
    (s.fault = true ∧ i ≠ .beginEncode ∧ t = s) ∨
    (∃ u, Completes s i u ∧ (i ≠ .beginEncode → s.fault = false) ∧ t = u.complete) ∨
    (s.fault = false ∧ ∃ c, Raises s c i ∧ t = s.enterFault c (encode i)) := by
  rcases exec_next h with ⟨rfl, rfl⟩ | ⟨hi, hf, rfl⟩ | ⟨-, hf, u, hu, rfl⟩ | ⟨-, hf, c, hc, rfl⟩
  · exact .inr (.inl ⟨_, .beginEncode, fun hi => absurd rfl hi, rfl⟩)
  · exact .inl ⟨hf, hi, rfl⟩
  · exact .inr (.inl ⟨u, hu.completes, fun _ => hf, rfl⟩)
  · exact .inr (.inr ⟨hf, c, hc, rfl⟩)

/-- The outcomes of an issued word (R154): discarded, illegal, or a command executed. -/
theorem issue_outcome {w : Word} {s t : State} (h : issue w s = .next t) :
    (s.fault = true ∧ w ≠ beginWord ∧ t = s) ∨
    (s.fault = false ∧ (∃ e, decode w = .error e) ∧ t = s.enterFault .illegalCommand w) ∨
    (∃ i, decode w = .ok i ∧ exec i s = .next t) := by
  unfold issue at h
  split at h
  · next hf =>
    split at h
    · next hw => exact .inr (.inr ⟨.beginEncode, hw ▸ rfl, h⟩)
    · next hw => cases h; exact .inl ⟨hf, hw, rfl⟩
  · next hf =>
    split at h
    · next e he => cases h; exact .inr (.inl ⟨by simpa using hf, ⟨e, he⟩, rfl⟩)
    · next i hi => exact .inr (.inr ⟨i, hi, h⟩)

/-- The outcomes of a step: idle, reset, or a word issued. -/
theorem step_outcome {s t : State} (h : step s = .next t) :
    (s.input = [] ∧ t = s) ∨
    (∃ rest, s.input = .reset :: rest ∧ t = State.resetEngine { s with input := rest }) ∨
    (∃ w rest, s.input = .command w :: rest ∧ issue w { s with input := rest } = .next t) := by
  unfold step takeInput at h
  split at h
  · next hin => cases h; exact .inl ⟨hin, rfl⟩
  · next rest hin => cases h; exact .inr (.inl ⟨rest, hin, rfl⟩)
  · next w rest hin => exact .inr (.inr ⟨w, rest, hin, h⟩)

end Sys2Proof.Machine
end

section
/-! The invariants of 10_state.md R25: each named update keeps them under the check its commands make first, hence every
completion, every fault entry, and every step. -/

open Sys2Proof.Claims

namespace Sys2Proof.Machine

/-- A write above every index a space lists appends the byte. -/
theorem Memory.write_above {m : Memory} {a : Nat} (v : Byte) (h : ∀ c ∈ m.map Prod.fst, c < a) :
    Memory.write m a v = m ++ [(a, v)] := by
  induction m with
  | nil => rfl
  | cons e m ih =>
    obtain ⟨b, w⟩ := e
    simp only [List.map_cons, List.forall_mem_cons] at h
    obtain ⟨hb, hm⟩ := h
    have h1 : ¬ a < b := by omega
    have h2 : a ≠ b := by omega
    simp only [Memory.write, h1, h2, if_false, ih hm, List.cons_append]

/-- A space that holds its first `n` bytes holds one more after a write at `n`. -/
theorem Memory.holdsFirst_write {m : Memory} {n : Nat} (h : Memory.holdsFirst m n) (v : Byte) :
    Memory.holdsFirst (Memory.write m n v) (n + 1) := by
  have hlt : ∀ c ∈ m.map Prod.fst, c < n := by rw [h]; exact fun c => List.mem_range.mp
  unfold Memory.holdsFirst
  rw [Memory.write_above v hlt, List.map_append, h, List.range_succ]; rfl

/-- R101, R102: every layout value fits its 17-bit register (R20). -/
theorem State.holdsLayout_setLayout {s : State} {l : Layout} (hl : s.layout = .ok l) :
    (s.setLayout l).HoldsLayout l := by
  obtain ⟨hn, -, rfl⟩ := layoutOf_ok.mp hl
  have hT := s.cfgT.isLt
  have hD := s.cfgD.isLt
  have hN := s.cfgN.isLt
  have hq := Nat.div_le_self s.cfgT.toNat s.cfgN.toNat
  have hq' := Nat.div_le_self s.cfgD.toNat s.cfgN.toNat
  have hm := Nat.mod_lt s.cfgT.toNat (Nat.pos_of_ne_zero hn)
  have hsub := Nat.sub_le (s.cfgT.toNat / s.cfgN.toNat) (s.cfgD.toNat / s.cfgN.toNat)
  have fits {x : Nat} (hx : x < 2 ^ 17) : (BitVec.ofNat 17 x).toNat = x := Nat.mod_eq_of_lt hx
  refine ⟨fits ?_, fits ?_, fits ?_, fits ?_, fits ?_, fits ?_, fits ?_⟩ <;> dsimp only <;> omega

namespace State.Inv

variable {s : State}

theorem withInput (h : s.Inv) (l : List HostInput) : State.Inv { s with input := l } := { h with }

theorem setReg (h : s.Inv) (r : Reg) (v : Byte) : (s.setReg r v).Inv := { h with }

theorem advanceOptr (h : s.Inv) (hlt : s.optr < s.olen) : s.advanceOptr.Inv :=
  { h with
    optr := by simp only [advanceOptr_optr, advanceOptr_olen]; bv_omega }

theorem pushData (h : s.Inv) (v : Byte) (hlt : s.dlen.toNat < s.sizes.dmax) : (s.pushData v).Inv := by
  have hlen : (s.dlen + 1).toNat = s.dlen.toNat + 1 := by
    obtain ⟨⟨-, hdmax⟩, -⟩ := legal_iff.mp h.sizes
    bv_omega
  exact { h with
    dlen := hlen ▸ hlt
    dmem := by simpa only [pushData_dmem, pushData_dlen, hlen] using Memory.holdsFirst_write h.dmem v }

theorem setGenerator (h : s.Inv) {r : Nat} (hpos : 0 < r) (hmax : r ≤ s.sizes.rmax) :
    (s.setGenerator (refGenerator r) r).Inv := by
  have hr : (BitVec.ofNat 16 r).toNat = r := by
    obtain ⟨-, -, -, -, hr⟩ := legal_iff.mp h.sizes
    exact Nat.mod_eq_of_lt (by omega)
  have hne : (BitVec.ofNat 16 r) ≠ 0 := fun h0 => by simp [h0] at hr; omega
  exact { h with
    gdeg := by simpa [hr] using hmax
    gen := by simp only [setGenerator_gen, setGenerator_gdeg, hr, hne, if_false] }

theorem setEc (h : s.Inv) {ec : List Byte} (hmax : ec.length ≤ s.sizes.emax) : (s.setEc ec ec.length).Inv := by
  have hn : (BitVec.ofNat 16 ec.length).toNat = ec.length := by
    obtain ⟨-, ⟨-, hemax⟩, -⟩ := legal_iff.mp h.sizes
    exact Nat.mod_eq_of_lt (by omega)
  exact { h with
    elen := by simpa [hn] using hmax
    emem := by simpa [hn] using Memory.map_fst_fill ec }

theorem setOutput (h : s.Inv) {out : List Byte} (hmax : out.length ≤ s.sizes.omax) :
    (s.setOutput out out.length).Inv := by
  have hn : (BitVec.ofNat 16 out.length).toNat = out.length := by
    obtain ⟨-, -, ⟨-, homax⟩, -⟩ := legal_iff.mp h.sizes
    exact Nat.mod_eq_of_lt (by omega)
  exact { h with
    olen := by simpa [hn] using hmax
    optr := by simp
    omem := by simpa [hn] using Memory.map_fst_fill out }

theorem setCfgT (h : s.Inv) (v : BitVec 16) : (s.setCfgT v).Inv := { h with layout := fun hlv => by cases hlv }

theorem setCfgD (h : s.Inv) (v : BitVec 16) : (s.setCfgD v).Inv := { h with layout := fun hlv => by cases hlv }

theorem setCfgN (h : s.Inv) (v : BitVec 16) : (s.setCfgN v).Inv := { h with layout := fun hlv => by cases hlv }

theorem setTables (h : s.Inv) : (s.setTables builtTables.1 builtTables.2).Inv :=
  { h with
    tables := fun _ => ⟨setTables_exp .., setTables_log ..⟩
    noTables := fun htv => by simp at htv }

theorem dropTables (h : s.Inv) : s.dropTables.Inv :=
  { h with
    tables := fun htv => by cases htv
    noTables := fun _ => ⟨rfl, rfl⟩ }

theorem setLayout (h : s.Inv) {l : Layout} (hl : s.layout = .ok l) : (s.setLayout l).Inv :=
  { h with layout := fun _ => ⟨l, hl, State.holdsLayout_setLayout hl⟩ }

theorem startEncode (h : s.Inv) : s.startEncode.Inv :=
  { h with
    noRecord := fun _ => ⟨rfl, rfl, rfl⟩
    cause := fun hf => by cases hf
    seq := fun hf => by cases hf
    dlen := Nat.zero_le _
    elen := Nat.zero_le _
    olen := Nat.zero_le _
    optr := Nat.zero_le _
    gdeg := Nat.zero_le _
    dmem := rfl
    emem := rfl
    omem := rfl
    gen := rfl
    layout := fun hlv => by cases hlv }

theorem complete (h : s.Inv) (hf : s.fault = false) : s.complete.Inv :=
  { h with seq := fun hf' => absurd hf' (by simp [hf]) }

/-- R143: with one of the causes a command or an illegal word can raise, the fault entry keeps the invariants. -/
theorem enterFault (h : s.Inv) {c : Cause} (hc : c.code ∈ [3#4, 4#4, 6#4, 7#4, 8#4, 9#4]) (w : Word) :
    (s.enterFault c w).Inv :=
  { h with
    noRecord := fun hf => by cases hf
    cause := fun _ => hc
    seq := fun _ => rfl }

/-- With the tables of R74 the generator is the product of the roots (R91). -/
theorem generator_eq (h : s.Inv) (htv : s.tv = true) {r : Nat} {gen : List Byte}
    (hgen : generator s.exp s.log r = some gen) : gen = refGenerator r := by
  obtain ⟨hexp, hlog⟩ := h.tables htv
  rw [hexp, hlog, generator_builtTables] at hgen
  exact (Option.some.inj hgen).symm

end State.Inv

/-- R3, R23: the reset state of an engine of any legal sizes meets the invariants. -/
theorem State.resetOf_inv {p : Config.Params} (hp : p.legal = true) : (State.resetOf p).Inv where
  sizes := hp
  noRecord := fun _ => ⟨rfl, rfl, rfl⟩
  cause := fun hf => by cases hf
  seq := fun hf => by cases hf
  dlen := Nat.zero_le _
  elen := Nat.zero_le _
  olen := Nat.zero_le _
  optr := Nat.zero_le _
  gdeg := Nat.zero_le _
  dmem := rfl
  emem := rfl
  omem := rfl
  gen := rfl
  tables := fun htv => by cases htv
  noTables := fun _ => ⟨rfl, rfl⟩
  layout := fun hlv => by cases hlv

/-- R104: `ILV` computes `ECB` EC bytes for each block. -/
theorem encodeBlocks_ec_length {exp log dmem : Memory} {n : Nat} {l : Layout} {r : Interleaved} (hpos : 0 < l.ecb)
    (h : encodeBlocks exp log dmem n l = some r) : r.ec.length = n * l.ecb := by
  obtain ⟨hgen, slices, ecs, hslices, hecs, hec, -⟩ := encodeBlocks_some h
  obtain ⟨hn, hk⟩ := mapM_some hecs
  have hlen : ∀ e ∈ ecs, e.length = l.ecb := by
    intro e he
    obtain ⟨k, he⟩ := List.mem_iff_getElem?.mp he
    rw [hk, Option.bind_eq_some_iff] at he
    obtain ⟨d, -, hrem⟩ := he
    exact remainder_length (generator_length hgen) hpos hrem
  have hnum : ecs.length = n := hn.trans (dataSlices_some hslices).1
  rw [hec, List.length_flatten, List.sum_eq_card_nsmul _ l.ecb (by simpa using hlen), List.length_map, hnum,
    smul_eq_mul]

/-- Every completing command keeps the invariants. -/
theorem Completes.inv {s u : State} {i : Instr} (h : Completes s i u) (hs : s.Inv) : u.Inv := by
  cases h with
  | nop | gfinitAgain | gffinAgain => exact hs
  | beginEncode => exact hs.startEncode
  | gfinit => exact hs.setTables
  | gffin => exact hs.dropTables
  | csrwT v => exact hs.setCfgT v
  | csrwD v => exact hs.setCfgD v
  | csrwN v => exact hs.setCfgN v
  | register _ v => exact hs.setReg _ v
  | onext rd v hlt => exact (hs.setReg rd v).advanceOptr hlt
  | dpushi v hlt => exact hs.pushData v hlt
  | dpush rs hlt => exact hs.pushData _ hlt
  | rsgen htv hpos hmax hgen =>
    cases hs.generator_eq htv hgen
    exact hs.setGenerator hpos hmax
  | rsenc htv hpos hmax hgen hec =>
    have hlen := remainder_length (generator_length hgen) hpos hec
    obtain ⟨-, ⟨hemax, -⟩, -⟩ := legal_iff.mp hs.sizes
    cases hs.generator_eq htv hgen
    subst hlen
    exact (hs.setGenerator hpos hmax).setEc (hmax.trans hemax)
  | ilayout hl => exact hs.setLayout hl
  | @ilv l r htv hl homax hemax hrmax henc hout =>
    have hpos : 0 < l.ecb := by
      obtain ⟨-, hlt, rfl⟩ := layoutOf_ok.mp hl
      exact Nat.sub_pos_of_lt hlt
    have hec := encodeBlocks_ec_length hpos henc
    have hgen := hs.generator_eq htv (encodeBlocks_some henc).1
    rw [← hec, ← hout, hgen]
    exact (((hs.setLayout hl).setGenerator hpos hrmax).setEc (hec ▸ hemax)).setOutput (hout ▸ homax)

/-- R142: a decoded command raises only the causes of its row. -/
theorem Raises.code_mem_causesOf {s : State} {c : Cause} {i : Instr} (h : Raises s c i) : c.code ∈ causesOf i := by
  cases i
  case nop | beginEncode | gfinit | gffin | csrwT | csrwD | csrwN | li | gfadd => exact h.elim
  case gfmul | gfexp | dpushi | dpush | ldd | lde | ldo | ldg | onext =>
    obtain ⟨-, rfl⟩ := h
    simp [causesOf, Cause.code]
  case gfdiv | gflog => rcases h with ⟨-, rfl⟩ | ⟨-, -, rfl⟩ <;> simp [causesOf, Cause.code]
  case rsgen | rsenc => rcases h with rfl | rfl | rfl <;> simp [causesOf, Cause.code]
  case ilayout => rw [(layoutOf_error.mp h).2]; decide
  case ilv => rcases ilvEffect_raise h with rfl | rfl | rfl | rfl <;> decide

/-- R25.1: the causes of R142's table are among those a fault record may hold. -/
theorem causesOf_subset (i : Instr) : causesOf i ⊆ [3#4, 4#4, 6#4, 7#4, 8#4, 9#4] := by
  cases i <;> simp [causesOf]

/-- Every command keeps the invariants. -/
theorem exec_inv {i : Instr} {s t : State} (hs : s.Inv) (h : exec i s = .next t) : t.Inv := by
  rcases exec_outcome h with ⟨-, -, rfl⟩ | ⟨u, hu, hf, rfl⟩ | ⟨-, c, hc, rfl⟩
  · exact hs
  · obtain ⟨huf, -⟩ := hu.keeps hf
    exact (hu.inv hs).complete huf
  · exact hs.enterFault (causesOf_subset i hc.code_mem_causesOf) _

/-- Every issued word keeps the invariants. -/
theorem issue_inv {w : Word} {s t : State} (hs : s.Inv) (h : issue w s = .next t) : t.Inv := by
  rcases issue_outcome h with ⟨-, -, rfl⟩ | ⟨-, -, rfl⟩ | ⟨i, -, h⟩
  · exact hs
  · exact hs.enterFault (by decide) w
  · exact exec_inv hs h

/-- Settles O19. -/
theorem resetMeetsTheInvariants : Obligations.ResetMeetsTheInvariants :=
  ⟨State.resetOf_inv (p := Config.qrec) (by decide), fun _ => State.resetOf_inv⟩

/-- Settles O20: an idle step keeps the state, reset establishes the invariants, and an issued word keeps them. -/
theorem stepsKeepTheInvariants : Obligations.StepsKeepTheInvariants := by
  intro s t hs h
  rcases step_outcome h with ⟨-, rfl⟩ | ⟨rest, -, rfl⟩ | ⟨w, rest, -, h⟩
  · exact hs
  · exact (State.resetOf_inv hs.sizes).withInput rest
  · exact issue_inv (hs.withInput rest) h

end Sys2Proof.Machine
end

section
/-! What a command changes: the counter, the flags, the GF registers and the control registers (10_state.md R11 to R14). -/

open Sys2Proof.Claims

namespace Sys2Proof.Machine

/-! ### The command counter -/

/-- Settles O12: a completion counts, a fault entry and a discarded command do not. -/
theorem commandCounterCountsCompletions : Obligations.CommandCounterCountsCompletions := by
  intro i s t h
  rcases exec_outcome h with ⟨hf, -, rfl⟩ | ⟨u, hu, hf, rfl⟩ | ⟨-, c, -, rfl⟩
  · simp [hf]
  · obtain ⟨huf, hseq, -⟩ := hu.keeps hf
    simp [huf, hseq]
  · simp

/-! ### The status flags -/

/-- `TV` after the completing command `i` (R13). -/
def tvAfter : Instr → Bool → Bool
  | .gfinit, _ => true
  | .gffin, _ => false
  | _, b => b

/-- `LV` after the completing command `i` (R13). -/
def lvAfter : Instr → Bool → Bool
  | .ilayout, _ | .ilv, _ => true
  | .beginEncode, _ | .csrwT _, _ | .csrwD _, _ | .csrwN _, _ => false
  | _, b => b

/-- A command with a destination register sets and clears no flag. -/
theorem flagsAfter_of_destination {i : Instr} {rd : Reg} (hrd : destination i = some rd) (b : Bool) :
    tvAfter i b = b ∧ lvAfter i b = b := by
  cases i <;> cases hrd <;> exact ⟨rfl, rfl⟩

theorem Completes.flags {s u : State} {i : Instr} (h : Completes s i u) :
    u.tv = tvAfter i s.tv ∧ u.lv = lvAfter i s.lv := by
  cases h
  case register hrd =>
    exact ⟨(flagsAfter_of_destination hrd _).1.symm, (flagsAfter_of_destination hrd _).2.symm⟩
  case gfinitAgain htv => exact ⟨htv, rfl⟩
  case gffinAgain htv => exact ⟨htv, rfl⟩
  all_goals exact ⟨rfl, rfl⟩

/-- Settles O13, by the flags after a completing command; a discarded or faulting command sets and clears none but FAULT. -/
theorem flagsChangeOnlyAsListed : Obligations.FlagsChangeOnlyAsListed := by
  intro i s t h
  rcases exec_outcome h with ⟨hf, -, rfl⟩ | ⟨u, hu, hf, rfl⟩ | ⟨-, c, -, rfl⟩
  · simp [hf]
  · obtain ⟨htv, hlv⟩ := hu.flags
    obtain ⟨huf, -⟩ := hu.keeps hf
    simp only [State.complete_tv, State.complete_lv, State.complete_fault, htv, hlv, huf]
    refine ⟨?_, fun hne => .inr ?_, ?_, fun _ => ?_⟩
    · cases i <;> simp [tvAfter]
    · by_contra hi
      exact hne (hf hi).symm
    · cases i <;> simp [lvAfter]
    · cases i <;> simp [tvAfter, lvAfter]
  · simp

/-! ### Registers -/

/-- A completing command leaves every register but its destination alone. -/
theorem Completes.reg {s u : State} {i : Instr} (h : Completes s i u) {r : Reg} (hr : destination i ≠ some r) :
    u.reg r = s.reg r := by
  cases h
  case register rd v hrd =>
    have hne : r ≠ rd := fun he => hr (he ▸ hrd)
    rw [State.reg_setReg, if_neg hne]
  case onext rd v hlt =>
    have hne : r ≠ rd := fun he => hr (he ▸ rfl)
    exact (State.reg_setReg ..).trans (if_neg hne)
  all_goals rfl

/-- Settles O15: a completion writes its destination only, a fault entry and a discarded command write no register. -/
theorem onlyTheDestinationRegisterChanges : Obligations.OnlyTheDestinationRegisterChanges := by
  intro i s t r h hr
  rcases exec_outcome h with ⟨-, -, rfl⟩ | ⟨u, hu, hf, rfl⟩ | ⟨-, c, -, rfl⟩
  · rfl
  · obtain ⟨huf, -⟩ := hu.keeps hf
    have hr : destination i ≠ some r := hr.resolve_right (by simp [huf])
    exact hu.reg hr
  · rfl

/-! ### Control registers -/

theorem State.csr_complete (s : State) {n : Nat} (hn : n ≠ 0x07) : s.complete.csr n = s.csr n := by
  unfold State.csr
  split <;> simp [State.status] at hn ⊢

theorem State.csr_enterFault (s : State) (c : Cause) (w : Word) {n : Nat} (hn : n ∉ [0x03, 0x04, 0x05, 0x06]) :
    (s.enterFault c w).csr n = s.csr n := by
  unfold State.csr
  split <;> simp at hn ⊢

/-- A completing command leaves every control register alone that it is not listed for (R14). -/
theorem Completes.csr {s u : State} {i : Instr} (h : Completes s i u) {n : Nat} (hn : n ∉ csrsWrittenBy i)
    (h7 : n ≠ 0x07) : u.csr n = s.csr n := by
  cases h
  case nop | gfinitAgain | gffinAgain | register => rfl
  all_goals
    unfold csrsWrittenBy at hn
    unfold State.csr
    split <;> simp [State.status] at hn h7 ⊢

/-- Settles O16: a completion writes the registers of its row and counts in `CSEQ`, a fault entry writes the record. -/
theorem controlRegistersChangeOnlyAsListed : Obligations.ControlRegistersChangeOnlyAsListed := by
  intro i s t n h
  rcases exec_outcome h with ⟨-, -, rfl⟩ | ⟨u, hu, hf, rfl⟩ | ⟨-, c, -, rfl⟩
  · simp
  · obtain ⟨huf, -, hin, hsz⟩ := hu.keeps hf
    refine ⟨hin, hsz, fun hne => ?_⟩
    by_contra hno
    push Not at hno
    obtain ⟨hn, -, h7⟩ := hno
    have h7 := h7 huf
    exact hne ((State.csr_complete u h7).trans (hu.csr hn h7))
  · refine ⟨rfl, rfl, fun hne => .inr (.inl ⟨rfl, ?_⟩)⟩
    by_contra hn
    exact hne (State.csr_enterFault s c _ hn)

end Sys2Proof.Machine
end

section
/-! `LV` is read by no command (10_state.md R13). -/

open Sys2Proof.Claims

namespace Sys2Proof.Machine

/-- The state with another `LV`. -/
def State.withLv (s : State) (b : Bool) : State := { s with lv := b }

/-- Two effects do the same, but for `LV` in what they commit. -/
inductive Effect.SameButLv : Effect → Effect → Prop where
  | commit (u : State) (b : Bool) : SameButLv (.commit u) (.commit (u.withLv b))
  | raise (c : Cause) : SameButLv (.raise c) (.raise c)
  | stuck : SameButLv .stuck .stuck

theorem needTables_sameButLv {s : State} {b : Bool} {e e' : Effect} (h : e.SameButLv e') :
    (needTables s e).SameButLv (needTables (s.withLv b) e') := by
  have htv : (s.withLv b).tv = s.tv := rfl
  unfold needTables
  rw [htv]
  split
  · exact h
  · exact .raise _

theorem withValue_sameButLv {α : Type} (v : Option α) {k k' : α → Effect} (h : ∀ x, (k x).SameButLv (k' x)) :
    (Effect.withValue v k).SameButLv (Effect.withValue v k') := by
  cases v
  · exact .stuck
  · exact h _

theorem ite_raise_sameButLv {p : Prop} [Decidable p] (c : Cause) {e e' : Effect} (h : e.SameButLv e') :
    (if p then Effect.raise c else e).SameButLv (if p then .raise c else e') := by
  split
  · exact .raise c
  · exact h

theorem withCount_sameButLv {s : State} {b : Bool} (v : BitVec 16) {k k' : Nat → Effect}
    (h : ∀ r, (k r).SameButLv (k' r)) : (withCount s v k).SameButLv (withCount (s.withLv b) v k') :=
  ite_raise_sameButLv _ (ite_raise_sameButLv _ (h _))

theorem loadByte_sameButLv (s : State) (b : Bool) (sp : Space) (rd : Reg) (a : BitVec 16) :
    (loadByte s sp rd a).SameButLv (loadByte (s.withLv b) sp rd a) := by
  have hvalid : (s.withLv b).validIndex sp a.toNat = s.validIndex sp a.toNat := by cases sp <;> rfl
  have hread : (s.withLv b).readByte sp a.toNat = s.readByte sp a.toNat := by cases sp <;> rfl
  unfold loadByte
  rw [hvalid, hread]
  split
  · exact withValue_sameButLv _ fun v => .commit _ b
  · exact .raise _

theorem pushByte_sameButLv (s : State) (b : Bool) (v : Byte) :
    (pushByte s v).SameButLv (pushByte (s.withLv b) v) :=
  ite_raise_sameButLv _ (.commit _ b)

theorem ilvEffect_sameButLv (s : State) (b : Bool) : (ilvEffect s).SameButLv (ilvEffect (s.withLv b)) := by
  refine needTables_sameButLv ?_
  have hl : (s.withLv b).layout = s.layout := rfl
  rw [hl]
  cases s.layout with
  | error c => exact .raise c
  | ok l =>
    exact ite_raise_sameButLv _ (ite_raise_sameButLv _ (withValue_sameButLv _ fun r =>
      ite_raise_sameButLv _ (.commit _ true)))

/-- A rule whose effects from `s` and from `s` with another `LV` are the same but for `LV` has such outcomes. -/
theorem runCommand_sameButLv {w : Word} {s t : State} {b : Bool} {e e' : Effect} (he : e.SameButLv e')
    (h : runCommand w s e = .next t) :
    ∃ t', runCommand w (s.withLv b) e' = .next t' ∧ t'.withLv t.lv = t := by
  cases hf : s.fault with
  | true =>
    rw [runCommand_faulted hf] at h
    cases h
    exact ⟨s.withLv b, runCommand_faulted (s := s.withLv b) hf w e', rfl⟩
  | false =>
    cases he with
    | commit u b' =>
      rw [runCommand_commit hf] at h
      cases h
      exact ⟨_, runCommand_commit (s := s.withLv b) hf w _, rfl⟩
    | raise c =>
      rw [runCommand_raise hf] at h
      cases h
      exact ⟨_, runCommand_raise (s := s.withLv b) hf w c, rfl⟩
    | stuck => simp [runCommand, hf] at h

/-- The rule of every command but `BEGIN` has the same effect, but for `LV`, from a state with another `LV`. -/
theorem exec_sameButLv {i : Instr} (hi : i ≠ .beginEncode) (s : State) (b : Bool) :
    ∃ e e', exec i s = runCommand (encode i) s e ∧
      exec i (s.withLv b) = runCommand (encode i) (s.withLv b) e' ∧ e.SameButLv e' := by
  cases i
  case beginEncode => exact absurd rfl hi
  case nop | csrwT | csrwD | csrwN | li | gfadd => exact ⟨_, _, rfl, rfl, .commit _ _⟩
  case gfinit =>
    have he : Effect.SameButLv (.commit (if s.tv then s else s.setTables builtTables.1 builtTables.2))
        (.commit (if s.tv then s.withLv b else (s.withLv b).setTables builtTables.1 builtTables.2)) := by
      generalize builtTables = tables
      split <;> exact .commit _ b
    exact ⟨_, _, rfl, rfl, he⟩
  case gffin =>
    have he : Effect.SameButLv (.commit (if s.tv then s.dropTables else s))
        (.commit (if s.tv then (s.withLv b).dropTables else s.withLv b)) := by split <;> exact .commit _ b
    exact ⟨_, _, rfl, rfl, he⟩
  case gfmul | gfexp => exact ⟨_, _, rfl, rfl, needTables_sameButLv (withValue_sameButLv _ fun v => .commit _ b)⟩
  case gfdiv | gflog =>
    exact ⟨_, _, rfl, rfl,
      needTables_sameButLv (ite_raise_sameButLv _ (withValue_sameButLv _ fun v => .commit _ b))⟩
  case dpushi | dpush => exact ⟨_, _, rfl, rfl, pushByte_sameButLv ..⟩
  case ldd | lde | ldo | ldg => exact ⟨_, _, rfl, rfl, loadByte_sameButLv ..⟩
  case rsgen v =>
    exact ⟨_, _, rfl, rfl,
      needTables_sameButLv (withCount_sameButLv v fun r => withValue_sameButLv _ fun gen => .commit _ b)⟩
  case rsenc v =>
    exact ⟨_, _, rfl, rfl,
      needTables_sameButLv (withCount_sameButLv v fun r => withValue_sameButLv _ fun gen => withValue_sameButLv _ fun d =>
        withValue_sameButLv _ fun ec => .commit _ b)⟩
  case ilayout =>
    refine ⟨_, _, rfl, rfl, ?_⟩
    have hl : (s.withLv b).layout = s.layout := rfl
    rw [hl]
    cases s.layout with
    | error c => exact .raise c
    | ok l => exact .commit _ true
  case ilv => exact ⟨_, _, rfl, rfl, ilvEffect_sameButLv s b⟩
  case onext => exact ⟨_, _, rfl, rfl, ite_raise_sameButLv _ (withValue_sameButLv _ fun v => .commit _ b)⟩

/-- Settles O14: `BEGIN` reads no flag, and every other rule has the same effect but for `LV`. -/
theorem noCommandReadsLv : Obligations.NoCommandReadsLv := by
  intro i s t b h
  by_cases hi : i = .beginEncode
  · subst hi
    cases h
    exact ⟨_, rfl, rfl⟩
  · obtain ⟨e, e', hs, hs', he⟩ := exec_sameButLv hi s b
    rw [hs] at h
    obtain ⟨t', ht', heq⟩ := runCommand_sameButLv he h
    exact ⟨t', hs'.trans ht', heq⟩

end Sys2Proof.Machine
end

section
/-! The control registers and every location after reset, as the host reads them (10_state.md R14, R16, R23). -/

namespace Sys2Proof.Machine

/-- Settles O23: the registers by evaluation, the spaces since each is empty. -/
theorem resetValues : Obligations.ResetValues := by
  refine ⟨by decide, fun n hn => ?_, fun sp a => ?_⟩
  · have hcsr : ∀ n, n ≤ 0x16 → n ≤ 0x0C ∨ 0x10 ≤ n → State.reset.hostRead (.csr n) = some 0 := by decide
    exact hcsr n (by omega) (by omega)
  · have hread : State.reset.readByte sp a = none := by cases sp <;> rfl
    exact ⟨hread, by simp [State.hostRead, hread]⟩

/-- Widening by `v` bits puts zeros above. -/
theorem setWidth_eq_zero_append {w : Nat} (v : Nat) (x : BitVec w) : x.setWidth (v + w) = 0#v ++ x := by
  refine BitVec.eq_of_getLsbD_eq fun k hk => ?_
  rw [BitVec.getLsbD_append, BitVec.getLsbD_setWidth]
  by_cases hw : k < w
  · simp [hw, hk]
  · simp [hw, BitVec.getLsbD_of_ge x k (by omega)]

/-- R16: STATUS bit by bit. -/
theorem State.getLsbD_status (s : State) (k : Nat) :
    s.status.getLsbD k = if k = 0 then s.tv else if k = 1 then s.fault else decide (k = 2) && s.lv := by
  rw [State.status, BitVec.getLsbD_setWidth, BitVec.getLsbD_append, BitVec.getLsbD_append, BitVec.getLsbD_ofBool,
    BitVec.getLsbD_ofBool, BitVec.getLsbD_ofBool]
  match k with
  | 0 | 1 | 2 => simp
  | k + 3 => simp

/-- Settles O27, by the bits of STATUS. -/
theorem statusWordLayout : Obligations.StatusWordLayout := by
  intro s
  refine ⟨rfl, s.getLsbD_status 0, s.getLsbD_status 1, s.getLsbD_status 2, fun k hk => ?_, (s.getLsbD_status 1).symm⟩
  have h0 : k ≠ 0 := by omega
  have h1 : k ≠ 1 := by omega
  have h2 : k ≠ 2 := by omega
  simp [State.getLsbD_status, h0, h1, h2]

/-- Settles O26: each read widens its field. -/
theorem controlRegisterMap : Obligations.ControlRegisterMap := by
  intro s
  simp only [← setWidth_eq_zero_append]
  and_intros <;> rfl

end Sys2Proof.Machine
end

section
/-! What a command changes in the six byte spaces (20_memory.md R30, R41), and their canonical form. -/

open Sys2Proof.Claims

namespace Sys2Proof.Machine

/-! ### The spaces after each part of a command -/

/-- The count of a completion is in no space. -/
@[simp] theorem State.complete_space (s : State) (sp : Space) : s.complete.space sp = s.space sp := by cases sp <;> rfl

/-- R143: the fault record is in no space. -/
@[simp] theorem State.enterFault_space (s : State) (c : Cause) (w : Word) (sp : Space) :
    (s.enterFault c w).space sp = s.space sp := by cases sp <;> rfl

/-- R10: the host's input is in no space. -/
@[simp] theorem State.withInput_space (s : State) (l : List HostInput) (sp : Space) :
    State.space { s with input := l } sp = s.space sp := by cases sp <;> rfl

/-- R78: building the tables changes no buffer. -/
theorem State.setTables_space_other (s : State) (exp log : Memory) {sp : Space} (hexp : sp ≠ .exp) (hlog : sp ≠ .log) :
    (s.setTables exp log).space sp = s.space sp := by
  cases sp
  case exp => exact absurd rfl hexp
  case log => exact absurd rfl hlog
  all_goals rfl

/-- A push changes no byte but the one at `DLEN`. -/
theorem State.readByte_pushData_other (s : State) (v : Byte) (sp : Space) {a : Nat} (ha : a ≠ s.dlen.toNat) :
    (s.pushData v).readByte sp a = s.readByte sp a := by
  cases sp
  case dmem => exact Memory.read_write_other s.dmem v ha
  all_goals rfl

/-- A completing command leaves every space alone that it is not listed for (R30). -/
theorem Completes.space {s u : State} {i : Instr} (h : Completes s i u) {sp : Space} (hsp : sp ∉ spacesWrittenBy i) :
    u.space sp = s.space sp := by
  cases h
  case nop | gfinitAgain | gffinAgain => rfl
  case csrwT | csrwD | csrwN | register | onext | ilayout => cases sp <;> rfl
  case gfinit =>
    unfold spacesWrittenBy at hsp
    obtain ⟨hexp, hlog⟩ : sp ≠ .exp ∧ sp ≠ .log := by simpa using hsp
    exact s.setTables_space_other _ _ hexp hlog
  case beginEncode | gffin | dpushi | dpush | rsgen | rsenc | ilv =>
    unfold spacesWrittenBy at hsp
    cases sp <;> simp at hsp <;> rfl

/-- A completing push changes no byte but the one at `DLEN`. -/
theorem Completes.readByte_push {s u : State} {i : Instr} (h : Completes s i u)
    (hpush : (∃ v, i = .dpushi v) ∨ (∃ r, i = .dpush r)) (sp : Space) {a : Nat} (ha : a ≠ s.dlen.toNat) :
    u.readByte sp a = s.readByte sp a := by
  rcases hpush with ⟨v, rfl⟩ | ⟨r, rfl⟩
  · cases h with
    | register hrd => cases hrd
    | dpushi => exact s.readByte_pushData_other v sp ha
  · cases h with
    | register hrd => cases hrd
    | dpush => exact s.readByte_pushData_other _ sp ha

/-- Settles O17: a completion writes the spaces of its row, a fault entry and a discarded command write none. -/
theorem spacesChangeOnlyAsListed : Obligations.SpacesChangeOnlyAsListed := by
  intro i s t sp a h hne
  rcases exec_outcome h with ⟨-, -, rfl⟩ | ⟨u, hu, hf, rfl⟩ | ⟨-, c, -, rfl⟩
  · exact absurd rfl hne
  · obtain ⟨huf, -⟩ := hu.keeps hf
    have hne : u.readByte sp a ≠ s.readByte sp a := by simpa only [State.readByte, State.complete_space] using hne
    refine ⟨?_, huf, fun hpush => ?_⟩
    · by_contra hsp
      exact hne (congrArg (Memory.read · a) (hu.space hsp))
    · by_contra ha
      exact hne (hu.readByte_push hpush sp ha)
  · simp [State.readByte] at hne

/-! ### The tables while they are valid -/

/-- R30: the tables are in the rows of `GFINIT` and `GFFIN` only. -/
theorem eq_gfinit_or_gffin_of_writes_table {i : Instr} {sp : Space} (h : sp ∈ spacesWrittenBy i)
    (hsp : sp = .exp ∨ sp = .log) : i = .gfinit ∨ i = .gffin := by
  cases i
  case gfinit => exact .inl rfl
  case gffin => exact .inr rfl
  all_goals
    unfold spacesWrittenBy at h
    rcases hsp with rfl | rfl <;> simp at h

/-- R78: `GFINIT` with `TV = 1` writes no space. -/
theorem exec_gfinit_space {s t : State} (h : exec .gfinit s = .next t) (htv : s.tv = true) (sp : Space) :
    t.space sp = s.space sp := by
  have hexec : exec .gfinit s = runCommand (encode .gfinit) s (.commit s) := by
    rw [exec, execGfinit, if_pos htv]
  rw [hexec] at h
  rcases runCommand_next h with ⟨-, rfl⟩ | ⟨-, u, hu, rfl⟩ | ⟨-, c, hc, -⟩
  · rfl
  · cases hu
    exact s.complete_space sp
  · cases hc

/-- R41: a command that finds and leaves `TV = 1` changes no table entry: of the two that write the tables, `GFINIT` finds
them built, and `GFFIN` clears `TV`. -/
theorem exec_readByte_table {i : Instr} {s t : State} (h : exec i s = .next t) (hs : s.tv = true) (ht : t.tv = true)
    {sp : Space} (hsp : sp = .exp ∨ sp = .log) (a : Nat) : t.readByte sp a = s.readByte sp a := by
  by_contra hne
  obtain ⟨hmem, hf, -⟩ := spacesChangeOnlyAsListed i s t sp a h hne
  rcases eq_gfinit_or_gffin_of_writes_table hmem hsp with rfl | rfl
  · exact hne (congrArg (Memory.read · a) (exec_gfinit_space h hs sp))
  · obtain ⟨-, -, -, hafter⟩ := flagsChangeOnlyAsListed .gffin s t h
    obtain ⟨-, hgffin, -⟩ := hafter hf
    simp [hgffin rfl] at ht

/-- Settles O18: reset clears `TV`, and an issued word that leaves it 1 changes no table entry. -/
theorem tablesAreReadOnlyWhileValid : Obligations.TablesAreReadOnlyWhileValid := by
  intro s t h hs ht a
  rcases step_outcome h with ⟨-, rfl⟩ | ⟨rest, -, rfl⟩ | ⟨w, rest, -, h⟩
  · exact ⟨rfl, rfl⟩
  · cases ht
  · rcases issue_outcome h with ⟨-, -, rfl⟩ | ⟨-, -, rfl⟩ | ⟨i, -, h⟩
    · exact ⟨rfl, rfl⟩
    · exact ⟨rfl, rfl⟩
    · exact ⟨exec_readByte_table h hs ht (.inl rfl) a, exec_readByte_table h hs ht (.inr rfl) a⟩

/-! ### The canonical form -/

/-- The canonical form does not speak of the host's input. -/
theorem State.Canonical.withInput {s : State} (hs : s.Canonical) (l : List HostInput) :
    State.Canonical { s with input := l } := fun sp => s.withInput_space l sp ▸ hs sp

theorem State.Canonical.complete {s : State} (hs : s.Canonical) : s.complete.Canonical :=
  fun sp => s.complete_space sp ▸ hs sp

theorem State.Canonical.enterFault {s : State} (hs : s.Canonical) (c : Cause) (w : Word) :
    (s.enterFault c w).Canonical := fun sp => s.enterFault_space c w sp ▸ hs sp

theorem State.Canonical.setTables {s : State} (hs : s.Canonical) {exp log : Memory} (hexp : Memory.wf exp = true)
    (hlog : Memory.wf log = true) : (s.setTables exp log).Canonical := by
  intro sp
  by_cases h : sp = .exp ∨ sp = .log
  · rcases h with rfl | rfl
    · exact hexp
    · exact hlog
  · obtain ⟨h1, h2⟩ := not_or.mp h
    exact s.setTables_space_other exp log h1 h2 ▸ hs sp

/-- R30: a command with a destination register writes no space. -/
theorem spacesWrittenBy_of_destination {i : Instr} {rd : Reg} (hrd : destination i = some rd) :
    spacesWrittenBy i = [] := by
  cases i <;> cases hrd <;> rfl

/-- What a completing command leaves in a space of its row is in canonical form. -/
theorem Completes.wf_written {s u : State} {i : Instr} (h : Completes s i u) (hs : s.Canonical) {sp : Space}
    (hsp : sp ∈ spacesWrittenBy i) : Memory.wf (u.space sp) = true := by
  cases h
  case gfinitAgain | gffinAgain => exact hs sp
  case register hrd =>
    rw [spacesWrittenBy_of_destination hrd] at hsp
    cases hsp
  case gfinit =>
    obtain ⟨hexp, hlog⟩ := Memory.wf_builtTables
    exact hs.setTables hexp hlog sp
  case dpushi | dpush =>
    cases List.mem_singleton.mp hsp
    exact Memory.wf_write (hs .dmem) _ _
  case beginEncode | gffin | rsgen | rsenc | ilv =>
    unfold spacesWrittenBy at hsp
    cases sp <;> simp at hsp <;> simp [State.space]
  case nop | csrwT | csrwD | csrwN | ilayout | onext => cases hsp

theorem Completes.canonical {s u : State} {i : Instr} (h : Completes s i u) (hs : s.Canonical) : u.Canonical := by
  intro sp
  by_cases hsp : sp ∈ spacesWrittenBy i
  · exact h.wf_written hs hsp
  · exact h.space hsp ▸ hs sp

/-- Every command keeps the canonical form. -/
theorem exec_canonical {i : Instr} {s t : State} (hs : s.Canonical) (h : exec i s = .next t) : t.Canonical := by
  rcases exec_outcome h with ⟨-, -, rfl⟩ | ⟨u, hu, -, rfl⟩ | ⟨-, c, -, rfl⟩
  · exact hs
  · exact (hu.canonical hs).complete
  · exact hs.enterFault c _

/-- Every issued word keeps the canonical form. -/
theorem issue_canonical {w : Word} {s t : State} (hs : s.Canonical) (h : issue w s = .next t) : t.Canonical := by
  rcases issue_outcome h with ⟨-, -, rfl⟩ | ⟨-, -, rfl⟩ | ⟨i, -, h⟩
  · exact hs
  · exact hs.enterFault _ w
  · exact exec_canonical hs h

/-- Settles O22: an idle step keeps the state, reset empties every space, and an issued word keeps the form. -/
theorem stepsKeepSpacesCanonical : Obligations.StepsKeepSpacesCanonical := by
  intro s t hs h
  rcases step_outcome h with ⟨-, rfl⟩ | ⟨rest, -, rfl⟩ | ⟨w, rest, -, h⟩
  · exact hs
  · exact reset_canonical
  · exact issue_canonical (hs.withInput rest) h

end Sys2Proof.Machine
end

section
/-! The four checks of 30_encoding.md R56, all passed or one failed. -/

namespace Sys2Proof.WellFormed

theorem wellFormedWord_iff {w : Word} : wellFormedWord w = true ↔
    opcodeDefined w = true ∧ reservedClear w = true ∧ registersInRange w = true ∧ csrWritable w = true := by
  simp only [wellFormedWord, Bool.and_eq_true, and_assoc]

theorem wellFormedWord_eq_false_iff {w : Word} : wellFormedWord w = false ↔
    opcodeDefined w = false ∨ reservedClear w = false ∨ registersInRange w = false ∨ csrWritable w = false := by
  simp only [wellFormedWord, Bool.and_eq_false_iff, or_assoc]

end Sys2Proof.WellFormed
end

section
/-! The encoder and the decoder are inverse to each other (30_encoding.md R50 to R55, R62), format by format: the decoder
reads back the fields the encoder laid out, and a word it accepts is the encoding of the command it answers.

A word is an append of fields, of width `8 + 24` or the like; `simp` leaves these sums as they are (`-Nat.reduceAdd`), since
the lemmas about the bits of an append match them. -/

open Sys2Proof.WellFormed

namespace Sys2Proof

/-! ### What the decoder reads from an encoded command: the opcode of every format (R50), then its fields (R51) -/

@[simp] theorem opcodeOf_encodeN (op : BitVec 8) : opcodeOf (encodeN op) = op := by
  simp [opcodeOf, encodeN, BitVec.extractLsb'_append_eq_of_le, -Nat.reduceAdd]

@[simp] theorem opcodeOf_encodeR3 (op : BitVec 8) (rd ra rb : Reg) : opcodeOf (encodeR3 op rd ra rb) = op := by
  simp [opcodeOf, encodeR3, BitVec.extractLsb'_append_eq_of_le, -Nat.reduceAdd]

@[simp] theorem opcodeOf_encodeR2 (op : BitVec 8) (rd ra : Reg) : opcodeOf (encodeR2 op rd ra) = op := by
  simp [opcodeOf, encodeR2, BitVec.extractLsb'_append_eq_of_le, -Nat.reduceAdd]

@[simp] theorem opcodeOf_encodeR1 (op : BitVec 8) (r : Reg) : opcodeOf (encodeR1 op r) = op := by
  simp [opcodeOf, encodeR1, BitVec.extractLsb'_append_eq_of_le, -Nat.reduceAdd]

@[simp] theorem opcodeOf_encodeRI (op : BitVec 8) (rd : Reg) (imm8 : Byte) : opcodeOf (encodeRI op rd imm8) = op := by
  simp [opcodeOf, encodeRI, BitVec.extractLsb'_append_eq_of_le, -Nat.reduceAdd]

@[simp] theorem opcodeOf_encodeI8 (op : BitVec 8) (imm8 : Byte) : opcodeOf (encodeI8 op imm8) = op := by
  simp [opcodeOf, encodeI8, BitVec.extractLsb'_append_eq_of_le, -Nat.reduceAdd]

@[simp] theorem opcodeOf_encodeRA (op : BitVec 8) (rd : Reg) (addr16 : BitVec 16) :
    opcodeOf (encodeRA op rd addr16) = op := by
  simp [opcodeOf, encodeRA, BitVec.extractLsb'_append_eq_of_le, -Nat.reduceAdd]

@[simp] theorem opcodeOf_encodeCI (op csr : BitVec 8) (imm16 : BitVec 16) : opcodeOf (encodeCI op csr imm16) = op := by
  simp [opcodeOf, encodeCI, BitVec.extractLsb'_append_eq_of_le, -Nat.reduceAdd]

@[simp] theorem opcodeOf_encodeI16 (op : BitVec 8) (imm16 : BitVec 16) : opcodeOf (encodeI16 op imm16) = op := by
  simp [opcodeOf, encodeI16, BitVec.extractLsb'_append_eq_of_le, -Nat.reduceAdd]

@[simp] theorem decodeN_encodeN (op : BitVec 8) (i : Instr) : decodeN (encodeN op) i = .ok i := by
  simp [decodeN, encodeN, BitVec.extractLsb'_append_eq_of_add_le, -Nat.reduceAdd]

@[simp] theorem decodeR3_encodeR3 (op : BitVec 8) (rd ra rb : Reg) (mk : Reg → Reg → Reg → Instr) :
    decodeR3 (encodeR3 op rd ra rb) mk = .ok (mk rd ra rb) := by
  simp [decodeR3, encodeR3, regField, regTooHigh, regAt,
    BitVec.extractLsb'_append_eq_of_le, BitVec.extractLsb'_append_eq_of_add_le, -Nat.reduceAdd]

@[simp] theorem decodeR2_encodeR2 (op : BitVec 8) (rd ra : Reg) (mk : Reg → Reg → Instr) :
    decodeR2 (encodeR2 op rd ra) mk = .ok (mk rd ra) := by
  simp [decodeR2, encodeR2, regField, regTooHigh, regAt,
    BitVec.extractLsb'_append_eq_of_le, BitVec.extractLsb'_append_eq_of_add_le, -Nat.reduceAdd]

@[simp] theorem decodeR1_encodeR1 (op : BitVec 8) (r : Reg) (mk : Reg → Instr) :
    decodeR1 (encodeR1 op r) mk = .ok (mk r) := by
  simp [decodeR1, encodeR1, regField, regTooHigh, regAt,
    BitVec.extractLsb'_append_eq_of_le, BitVec.extractLsb'_append_eq_of_add_le, -Nat.reduceAdd]

@[simp] theorem decodeRI_encodeRI (op : BitVec 8) (rd : Reg) (imm8 : Byte) (mk : Reg → Byte → Instr) :
    decodeRI (encodeRI op rd imm8) mk = .ok (mk rd imm8) := by
  simp [decodeRI, encodeRI, regField, regTooHigh, regAt, imm8Of,
    BitVec.extractLsb'_append_eq_of_le, BitVec.extractLsb'_append_eq_of_add_le, -Nat.reduceAdd]

@[simp] theorem decodeI8_encodeI8 (op : BitVec 8) (imm8 : Byte) (mk : Byte → Instr) :
    decodeI8 (encodeI8 op imm8) mk = .ok (mk imm8) := by
  simp [decodeI8, encodeI8, imm8Of,
    BitVec.extractLsb'_append_eq_of_le, BitVec.extractLsb'_append_eq_of_add_le, -Nat.reduceAdd]

@[simp] theorem decodeRA_encodeRA (op : BitVec 8) (rd : Reg) (addr16 : BitVec 16) (mk : Reg → BitVec 16 → Instr) :
    decodeRA (encodeRA op rd addr16) mk = .ok (mk rd addr16) := by
  simp [decodeRA, encodeRA, regField, regTooHigh, regAt, imm16Of,
    BitVec.extractLsb'_append_eq_of_le, BitVec.extractLsb'_append_eq_of_add_le, -Nat.reduceAdd]

@[simp] theorem decodeI16_encodeI16 (op : BitVec 8) (imm16 : BitVec 16) (mk : BitVec 16 → Instr) :
    decodeI16 (encodeI16 op imm16) mk = .ok (mk imm16) := by
  simp [decodeI16, encodeI16, imm16Of,
    BitVec.extractLsb'_append_eq_of_le, BitVec.extractLsb'_append_eq_of_add_le, -Nat.reduceAdd]

@[simp] theorem csrField_encodeCI (op csr : BitVec 8) (imm16 : BitVec 16) :
    (encodeCI op csr imm16).extractLsb' 16 8 = csr := by
  simp [encodeCI, BitVec.extractLsb'_append_eq_of_le, BitVec.extractLsb'_append_eq_of_add_le, -Nat.reduceAdd]

@[simp] theorem imm16Of_encodeCI (op csr : BitVec 8) (imm16 : BitVec 16) :
    imm16Of (encodeCI op csr imm16) = imm16 := by
  simp [imm16Of, encodeCI, BitVec.extractLsb'_append_eq_of_add_le, -Nat.reduceAdd]

/-- R50 to R55: the fields of the encoding are the operands. -/
theorem decode_encode (i : Instr) : decode (encode i) = .ok i := by
  cases i
  case csrwT | csrwD | csrwN => simp [encode, decode, decodeCI]
  all_goals simp [encode, decode]

/-! ### What the decoder answers -/

/-- Bits `lo` to `lo + n - 1` of a word survive a mask that is set there. -/
theorem extract_and_mask {w m : Word} {lo n : Nat} (hm : m.extractLsb' lo n = BitVec.allOnes n) :
    (w &&& m).extractLsb' lo n = w.extractLsb' lo n := by
  rw [BitVec.extractLsb'_and, hm, BitVec.and_allOnes]

/-- A field that is not zero shows in a mask that is set there. -/
theorem and_mask_ne_zero {w m : Word} {lo n : Nat} (hm : m.extractLsb' lo n = BitVec.allOnes n)
    (hw : w.extractLsb' lo n ≠ 0#n) : w &&& m ≠ 0#32 := by
  intro h
  rw [← extract_and_mask hm, h] at hw
  exact hw BitVec.extractLsb'_zero

/-- R56 (a): a word of an undefined opcode is illegal. -/
theorem illegal_of_opcode {w : Word} (hf : formatOf (opcodeField w) = none) : wellFormedWord w = false :=
  wellFormedWord_eq_false_iff.mpr (.inl (by rw [opcodeDefined, hf]; rfl))

/-- R56 (b): a reserved field that is not zero makes the word illegal. -/
theorem illegal_of_reserved {w : Word} {f : Format} {lo n : Nat} (hf : formatOf (opcodeField w) = some f)
    (hm : (reservedMask f).extractLsb' lo n = BitVec.allOnes n) (hw : w.extractLsb' lo n ≠ 0#n) :
    wellFormedWord w = false := by
  refine wellFormedWord_eq_false_iff.mpr (.inr (.inl ?_))
  simpa [reservedClear, hf] using and_mask_ne_zero hm hw

/-- R56 (c): a register field above 7 makes the word illegal. -/
theorem illegal_of_register {w : Word} {f : Format} {lo : Nat} (hf : formatOf (opcodeField w) = some f)
    (hm : (registerMask f).extractLsb' (lo + 3) 1 = BitVec.allOnes 1) (hw : regTooHigh w lo = true) :
    wellFormedWord w = false := by
  refine wellFormedWord_eq_false_iff.mpr (.inr (.inr (.inl ?_)))
  simpa [registersInRange, hf] using and_mask_ne_zero hm (bne_iff_ne.mp hw)

/-- A register field whose bit 3 is zero is the 4 bits of the word (R53). -/
theorem regField_regAt {w : Word} {lo : Nat} (h : ¬ regTooHigh w lo = true) :
    regField (regAt w lo) = w.extractLsb' lo 4 := by
  have h0 : w.extractLsb' (lo + 3) 1 = 0#1 := by simpa [regTooHigh] using h
  rw [regField, regAt, ← h0, BitVec.extractLsb'_append_extractLsb'_eq_extractLsb' rfl]

/-- A right answer to the question what `w` encodes: a command that `w` is the encoding of, or a refusal of a word that fails
a check of R56. -/
def RightAnswer (w : Word) : Except IllegalReason Instr → Prop
  | .ok i => encode i = w
  | .error _ => wellFormedWord w = false

/-! Each format, for a word of an opcode of that format: a refusal names a check that fails, and an accepted word is put
together again from its fields. -/

section

variable {w : Word} {op : BitVec 8}

theorem decodeN_right {i : Instr} (hop : opcodeOf w = op) (hf : formatOf op = some .n) (henc : encode i = encodeN op) :
    RightAnswer w (decodeN w i) := by
  subst hop
  unfold decodeN
  split_ifs with h
  · rw [RightAnswer, henc, encodeN, ← h]
    simp [opcodeOf, BitVec.extractLsb'_append_extractLsb'_eq_extractLsb', -Nat.reduceAdd]
  · exact illegal_of_reserved hf rfl h

theorem decodeR3_right {mk : Reg → Reg → Reg → Instr} (hop : opcodeOf w = op) (hf : formatOf op = some .r3)
    (henc : ∀ rd ra rb, encode (mk rd ra rb) = encodeR3 op rd ra rb) : RightAnswer w (decodeR3 w mk) := by
  subst hop
  unfold decodeR3
  split_ifs with h hr
  · exact illegal_of_reserved hf rfl h
  · simp only [Bool.or_eq_true] at hr
    rcases hr with (hr | hr) | hr <;> exact illegal_of_register hf rfl hr
  · simp only [Bool.or_eq_true, not_or] at hr
    obtain ⟨⟨hd, ha⟩, hb⟩ := hr
    rw [RightAnswer, henc, encodeR3, ← not_ne_iff.mp h, regField_regAt hd, regField_regAt ha, regField_regAt hb]
    simp [opcodeOf, BitVec.extractLsb'_append_extractLsb'_eq_extractLsb', -Nat.reduceAdd]

theorem decodeR2_right {mk : Reg → Reg → Instr} (hop : opcodeOf w = op) (hf : formatOf op = some .r2)
    (henc : ∀ rd ra, encode (mk rd ra) = encodeR2 op rd ra) : RightAnswer w (decodeR2 w mk) := by
  subst hop
  unfold decodeR2
  split_ifs with h hr
  · exact illegal_of_reserved hf rfl h
  · rcases Bool.or_eq_true_iff.mp hr with hr | hr <;> exact illegal_of_register hf rfl hr
  · simp only [Bool.or_eq_true, not_or] at hr
    obtain ⟨hd, ha⟩ := hr
    rw [RightAnswer, henc, encodeR2, ← not_ne_iff.mp h, regField_regAt hd, regField_regAt ha]
    simp [opcodeOf, BitVec.extractLsb'_append_extractLsb'_eq_extractLsb', -Nat.reduceAdd]

theorem decodeR1_right {mk : Reg → Instr} (hop : opcodeOf w = op) (hf : formatOf op = some .r1)
    (henc : ∀ r, encode (mk r) = encodeR1 op r) : RightAnswer w (decodeR1 w mk) := by
  subst hop
  unfold decodeR1
  split_ifs with h hr
  · exact illegal_of_reserved hf rfl h
  · exact illegal_of_register hf rfl hr
  · rw [RightAnswer, henc, encodeR1, ← not_ne_iff.mp h, regField_regAt hr]
    simp [opcodeOf, BitVec.extractLsb'_append_extractLsb'_eq_extractLsb', -Nat.reduceAdd]

theorem decodeRI_right {mk : Reg → Byte → Instr} (hop : opcodeOf w = op) (hf : formatOf op = some .ri)
    (henc : ∀ rd imm8, encode (mk rd imm8) = encodeRI op rd imm8) : RightAnswer w (decodeRI w mk) := by
  subst hop
  unfold decodeRI
  split_ifs with h hr
  · exact illegal_of_reserved hf rfl h
  · exact illegal_of_register hf rfl hr
  · rw [RightAnswer, henc, encodeRI, ← not_ne_iff.mp h, regField_regAt hr]
    simp [opcodeOf, imm8Of, BitVec.extractLsb'_append_extractLsb'_eq_extractLsb', -Nat.reduceAdd]

theorem decodeI8_right {mk : Byte → Instr} (hop : opcodeOf w = op) (hf : formatOf op = some .i8)
    (henc : ∀ imm8, encode (mk imm8) = encodeI8 op imm8) : RightAnswer w (decodeI8 w mk) := by
  subst hop
  unfold decodeI8
  split_ifs with h
  · exact illegal_of_reserved hf rfl h
  · rw [RightAnswer, henc, encodeI8, ← not_ne_iff.mp h]
    simp [opcodeOf, imm8Of, BitVec.extractLsb'_append_extractLsb'_eq_extractLsb', -Nat.reduceAdd]

theorem decodeRA_right {mk : Reg → BitVec 16 → Instr} (hop : opcodeOf w = op) (hf : formatOf op = some .ra)
    (henc : ∀ rd addr16, encode (mk rd addr16) = encodeRA op rd addr16) : RightAnswer w (decodeRA w mk) := by
  subst hop
  unfold decodeRA
  split_ifs with h hr
  · exact illegal_of_reserved hf rfl h
  · exact illegal_of_register hf rfl hr
  · rw [RightAnswer, henc, encodeRA, ← not_ne_iff.mp h, regField_regAt hr]
    simp [opcodeOf, imm16Of, BitVec.extractLsb'_append_extractLsb'_eq_extractLsb', -Nat.reduceAdd]

theorem decodeI16_right {mk : BitVec 16 → Instr} (hop : opcodeOf w = op) (hf : formatOf op = some .i16)
    (henc : ∀ imm16, encode (mk imm16) = encodeI16 op imm16) : RightAnswer w (decodeI16 w mk) := by
  subst hop
  unfold decodeI16
  split_ifs with h
  · exact illegal_of_reserved hf rfl h
  · rw [RightAnswer, henc, encodeI16, ← not_ne_iff.mp h]
    simp [opcodeOf, imm16Of, BitVec.extractLsb'_append_extractLsb'_eq_extractLsb', -Nat.reduceAdd]

/-- Format CI has no reserved bits: a word is the encoding of its three fields. -/
theorem encodeCI_fields (w : Word) : encodeCI (opcodeOf w) (w.extractLsb' 16 8) (imm16Of w) = w := by
  simp [encodeCI, opcodeOf, imm16Of, BitVec.extractLsb'_append_extractLsb'_eq_extractLsb', -Nat.reduceAdd]

theorem decodeCI_right (hop : opcodeOf w = 0x08#8) : RightAnswer w (decodeCI w) := by
  have hfields := encodeCI_fields w
  rw [hop] at hfields
  unfold decodeCI
  split
  case h_1 h | h_2 h | h_3 h => rw [h] at hfields; exact hfields
  case h_4 h0 h1 h2 =>
    have hop : opcodeField w = 0x08#8 := hop
    refine wellFormedWord_eq_false_iff.mpr (.inr (.inr (.inr ?_)))
    simpa [csrWritable, hop] using ⟨h0, h1, h2⟩

end

/-- The decoder answers every word right, opcode by opcode (R55). -/
theorem decode_right (w : Word) : RightAnswer w (decode w) := by
  unfold decode
  split
  case h_5 hop => exact decodeCI_right hop
  case h_23 =>
    have hnone : formatOf (opcodeOf w) = none := by simp_all [formatOf]
    exact illegal_of_opcode hnone
  case h_1 hop | h_2 hop | h_3 hop | h_4 hop | h_20 hop | h_21 hop => exact decodeN_right hop rfl rfl
  case h_6 hop => exact decodeRI_right hop rfl fun _ _ => rfl
  case h_7 hop | h_8 hop | h_9 hop => exact decodeR3_right hop rfl fun _ _ _ => rfl
  case h_10 hop | h_11 hop => exact decodeR2_right hop rfl fun _ _ => rfl
  case h_12 hop => exact decodeI8_right hop rfl fun _ => rfl
  case h_13 hop | h_22 hop => exact decodeR1_right hop rfl fun _ => rfl
  case h_14 hop | h_15 hop | h_16 hop | h_17 hop => exact decodeRA_right hop rfl fun _ _ => rfl
  case h_18 hop | h_19 hop => exact decodeI16_right hop rfl fun _ => rfl

/-- A decoded word is the encoding of its command. -/
theorem encode_of_decode {w : Word} {i : Instr} (h : decode w = .ok i) : encode i = w := by
  have hright := decode_right w
  rwa [h] at hright

/-- R62: each command has exactly one word. -/
theorem decode_eq_ok_iff {w : Word} {i : Instr} : decode w = .ok i ↔ w = encode i :=
  ⟨fun h => (encode_of_decode h).symm, fun h => h ▸ decode_encode i⟩

open Laws.LegalEncoding in
/-- R56: every encoding passes the four checks. -/
theorem wellFormedWord_encode : ∀ i : Instr, wellFormedWord (encode i) = true
  | .nop => nop
  | .beginEncode => beginEncode
  | .gfinit => gfinit
  | .gffin => gffin
  | .csrwT imm16 => csrwT imm16
  | .csrwD imm16 => csrwD imm16
  | .csrwN imm16 => csrwN imm16
  | .li rd imm8 => li rd imm8
  | .gfadd rd ra rb => gfadd rd ra rb
  | .gfmul rd ra rb => gfmul rd ra rb
  | .gfdiv rd ra rb => gfdiv rd ra rb
  | .gfexp rd ra => gfexp rd ra
  | .gflog rd ra => gflog rd ra
  | .dpushi imm8 => dpushi imm8
  | .dpush rs => dpush rs
  | .ldd rd addr16 => ldd rd addr16
  | .lde rd addr16 => lde rd addr16
  | .ldo rd addr16 => ldo rd addr16
  | .ldg rd addr16 => ldg rd addr16
  | .rsgen imm16 => rsgen imm16
  | .rsenc imm16 => rsenc imm16
  | .ilayout => ilayout
  | .ilv => ilv
  | .onext rd => onext rd

/-- R56: a word is illegal exactly when it fails a check. -/
theorem decode_error_iff {w : Word} : (∃ e, decode w = .error e) ↔ wellFormedWord w = false := by
  have hright := decode_right w
  cases h : decode w with
  | error e => rw [h] at hright; exact ⟨fun _ => hright, fun _ => ⟨e, rfl⟩⟩
  | ok i =>
    have hwf := wellFormedWord_encode i
    rw [encode_of_decode h] at hwf
    simp [hwf]

/-- R62: a word decodes exactly when it passes the four checks. -/
theorem decode_ok_iff {w : Word} : (∃ i, decode w = .ok i) ↔ wellFormedWord w = true := by
  rw [← Bool.not_eq_false, ← decode_error_iff]
  cases decode w <;> simp

end Sys2Proof
end

section
/-! The opcode map (30_encoding.md R55): a word matches a row exactly when it passes the four checks of R56, and two rows
have no word in common. -/

namespace Sys2Proof.WellFormed

/-- The bits of a word that the checks of R56 look at: the opcode, the reserved bits, the tops of the register fields, and
for `CSRW` the register's number. -/
def checkedBits (f : Format) : Word :=
  0xFF000000 ||| reservedMask f ||| registerMask f ||| if f = .ci then 0x00FF0000 else 0

/-- The checks see no other bit. -/
theorem wellFormedWord_congr {w v : Word} {f : Format} (hf : formatOf (opcodeField v) = some f)
    (h : w &&& checkedBits f = v &&& checkedBits f) : wellFormedWord w = wellFormedWord v := by
  have hsub {m : Word} (hm : checkedBits f &&& m = m) : w &&& m = v &&& m := by
    rw [← hm, ← BitVec.and_assoc, h, BitVec.and_assoc]
  have hfield {lo n : Nat} (hm : (checkedBits f).extractLsb' lo n = BitVec.allOnes n) :
      w.extractLsb' lo n = v.extractLsb' lo n := by
    rw [← extract_and_mask hm, h, extract_and_mask hm]
  have hop : opcodeField w = opcodeField v := hfield (by cases f <;> rfl)
  have hr : w &&& reservedMask f = v &&& reservedMask f := hsub (by cases f <;> rfl)
  have hg : w &&& registerMask f = v &&& registerMask f := hsub (by cases f <;> rfl)
  have hcsr : csrWritable w = csrWritable v := by
    by_cases h8 : opcodeField v = 0x08#8
    · rw [h8] at hf
      cases hf
      rw [csrWritable, csrWritable, hop, hfield rfl]
    · rw [csrWritable, csrWritable, hop, bne_iff_ne.mpr h8, Bool.true_or, Bool.true_or]
  simp only [wellFormedWord, opcodeDefined, reservedClear, registersInRange, hop, hf, hr, hg, hcsr]

/-- A row's mask is the checked bits of its opcode's format, and its pattern is a legal word with no other bit set. -/
theorem checkedBits_of_mem_opcodeMap {row : Row} (h : row ∈ opcodeMap) :
    ∃ f, formatOf (opcodeField row.pattern) = some f ∧ row.mask = checkedBits f ∧
      row.pattern &&& row.mask = row.pattern ∧ wellFormedWord row.pattern = true := by
  have hrows : ∀ row ∈ opcodeMap,
      (formatOf (opcodeField row.pattern)).any (fun f => row.mask == checkedBits f) = true ∧
      row.pattern &&& row.mask = row.pattern ∧ wellFormedWord row.pattern = true := by decide
  obtain ⟨hf, hp, hwf⟩ := hrows row h
  obtain ⟨f, hf, hm⟩ := (Option.any_eq_true _ _).mp hf
  exact ⟨f, hf, beq_iff_eq.mp hm, hp, hwf⟩

theorem wellFormedWord_of_admits {row : Row} {w : Word} (hrow : row ∈ opcodeMap) (h : row.admits w = true) :
    wellFormedWord w = true := by
  obtain ⟨f, hf, hm, hp, hwf⟩ := checkedBits_of_mem_opcodeMap hrow
  rw [← hwf, wellFormedWord_congr hf]
  rw [← hm, hp]
  exact beq_iff_eq.mp h

/-- A mask of the upper `hi` bits keeps these and clears the others. -/
theorem and_upperMask {hi lo : Nat} (w : BitVec (hi + lo)) :
    w &&& (BitVec.allOnes hi ++ 0#lo) = w.extractLsb' lo hi ++ 0#lo := by
  ext k hk
  simp only [BitVec.getElem_and, BitVec.getElem_append, BitVec.getElem_extractLsb', BitVec.getElem_allOnes,
    BitVec.getElem_zero]
  split
  · exact Bool.and_false _
  next hlo =>
    rw [Bool.and_true, Nat.add_sub_cancel' (Nat.le_of_not_lt hlo), BitVec.getLsbD_eq_getElem]

/-- The checked bits of a legal word: its opcode, and the register's number of a `CSRW`. -/
theorem and_checkedBits {w : Word} {f : Format} (hf : formatOf (opcodeField w) = some f) (hwf : wellFormedWord w = true) :
    w &&& checkedBits f = if f = .ci then w.extractLsb' 16 16 ++ 0#16 else opcodeField w ++ 0#24 := by
  obtain ⟨-, hr, hg, -⟩ := wellFormedWord_iff.mp hwf
  simp only [reservedClear, registersInRange, hf, beq_iff_eq] at hr hg
  have h24 : w &&& 0xFF000000 = opcodeField w ++ 0#24 :=
    and_upperMask (hi := 8) (lo := 24) w
  have h16 : w &&& 0xFFFF0000 = w.extractLsb' 16 16 ++ 0#16 :=
    and_upperMask (hi := 16) (lo := 16) w
  split
  next hci => rw [hci]; exact h16
  next hci =>
    simp only [checkedBits, if_neg hci, BitVec.and_or_distrib_left, hr, hg, h24]
    simp

/-- R55: each opcode but 0x08 has one row. -/
theorem row_mem {op : BitVec 8} {f : Format} (hf : formatOf op = some f) (hci : f ≠ .ci) :
    ⟨op ++ 0#24, checkedBits f⟩ ∈ opcodeMap := by
  have hall : ∀ op : BitVec 8,
      (formatOf op).all (fun f => f == .ci || opcodeMap.contains ⟨op ++ 0#24, checkedBits f⟩) = true := by
    decide +kernel
  simpa [hf, hci] using hall op

/-- R55: the opcode 0x08 has one row for each writable register. -/
theorem csrwRow_mem {w : Word} (hf : formatOf (opcodeField w) = some .ci) (hwf : wellFormedWord w = true) :
    ⟨w.extractLsb' 16 16 ++ 0#16, checkedBits .ci⟩ ∈ opcodeMap := by
  have hop : opcodeField w = 0x08#8 := by
    have hall : ∀ op : BitVec 8, formatOf op = some .ci → op = 0x08#8 := by decide +kernel
    exact hall _ hf
  have hcsr : w.extractLsb' 16 8 ∈ [0x00#8, 0x01#8, 0x02#8] := by
    obtain ⟨-, -, -, hcsr⟩ := wellFormedWord_iff.mp hwf
    simpa [csrWritable, hop] using hcsr
  have hjoin : w.extractLsb' 16 16 = opcodeField w ++ w.extractLsb' 16 8 :=
    (BitVec.extractLsb'_append_extractLsb'_eq_extractLsb' (show 24 = 16 + 8 from rfl)).symm
  have hrows : ∀ csr ∈ [0x00#8, 0x01#8, 0x02#8], ⟨(0x08#8 ++ csr) ++ 0#16, checkedBits .ci⟩ ∈ opcodeMap := by decide
  rw [hjoin, hop]
  exact hrows _ hcsr

/-- A legal word matches the row of its checked bits. -/
theorem exists_row_of_wellFormedWord {w : Word} (hwf : wellFormedWord w = true) :
    ∃ row ∈ opcodeMap, row.admits w = true := by
  obtain ⟨f, hf⟩ : ∃ f, formatOf (opcodeField w) = some f := by
    obtain ⟨hop, -⟩ := wellFormedWord_iff.mp hwf
    exact Option.isSome_iff_exists.mp hop
  refine ⟨⟨w &&& checkedBits f, checkedBits f⟩, ?_, beq_self_eq_true _⟩
  rw [and_checkedBits hf hwf]
  split
  next hci => subst hci; exact csrwRow_mem hf hwf
  next hci => exact row_mem hf hci

/-- Two rows that a word matches agree where both masks are set; no two rows of the map do. -/
theorem row_unique {r₁ r₂ : Row} {w : Word} (h₁ : r₁ ∈ opcodeMap) (h₂ : r₂ ∈ opcodeMap) (hw₁ : r₁.admits w = true)
    (hw₂ : r₂.admits w = true) : r₁ = r₂ := by
  have hrows : ∀ r₁ ∈ opcodeMap, ∀ r₂ ∈ opcodeMap, r₁.pattern &&& r₂.mask = r₂.pattern &&& r₁.mask → r₁ = r₂ := by decide
  refine hrows r₁ h₁ r₂ h₂ ?_
  rw [← beq_iff_eq.mp hw₁, ← beq_iff_eq.mp hw₂, BitVec.and_assoc, BitVec.and_comm r₁.mask, ← BitVec.and_assoc]

end Sys2Proof.WellFormed
end

section
/-! The claims about the encoding (30_encoding.md). -/

open Sys2Proof.Claims

namespace Sys2Proof.Machine

/-- Settles O1, format by format. -/
theorem everyCommandRoundTrips : Obligations.EveryCommandRoundTrips := decode_encode

/-- Settles O2: both the decoder's answers and the rows of the opcode map are the words that pass the checks of R56. -/
theorem decodingFollowsTheOpcodeMap : Obligations.DecodingFollowsTheOpcodeMap := by
  intro w
  refine ⟨?_, fun _ h₁ _ h₂ => WellFormed.row_unique h₁ h₂, fun _ => encode_of_decode⟩
  rw [decode_ok_iff]
  exact ⟨WellFormed.exists_row_of_wellFormedWord, fun ⟨_, hrow, h⟩ => WellFormed.wellFormedWord_of_admits hrow h⟩

/-- R56: an illegal word issued while no fault is latched takes the fault entry. -/
theorem step_of_illegal {w : Word} {e : IllegalReason} {s : State} {rest : List HostInput} (he : decode w = .error e)
    (hin : s.input = .command w :: rest) (hf : s.fault = false) :
    step s = .next (State.enterFault { s with input := rest } .illegalCommand w) := by
  simp [step, takeInput, hin, issue, hf, he]

/-- Settles O3: the four cases are the failures of the four checks. -/
theorem illegalWordsFault : Obligations.IllegalWordsFault := by
  intro w
  refine ⟨?_, fun _ _ _ => step_of_illegal⟩
  rw [decode_error_iff, WellFormed.wellFormedWord_eq_false_iff]

/-- Settles O4: the first eleven words are encodings. -/
theorem workedEncodingsDecode : Obligations.WorkedEncodingsDecode :=
  ⟨decode_encode .gfinit, decode_encode (.li 3 0x8E), decode_encode (.gfmul 1 2 3), decode_encode (.gfexp 0 7),
   decode_encode (.csrwN 4), decode_encode (.dpushi 236), decode_encode (.dpush 5), decode_encode (.lde 2 17),
   decode_encode (.rsenc 0xFFFF), decode_encode .ilv, decode_encode (.onext 4), rfl, rfl, rfl, rfl⟩

/-- Settles O5: each expansion is the encoding of its commands. -/
theorem pseudoInstructionsExpand : Obligations.PseudoInstructionsExpand :=
  fun _ _ _ _ _ => ⟨rfl, rfl, rfl, rfl, List.map_map⟩

end Sys2Proof.Machine
end

section
/-! The field laws (40_gf_engine.md R71 to R77): ALPHA has order 255, every nonzero byte is one of its powers, and the
product and the quotient add and subtract exponents, without tables and with any tables that hold what R74 states. -/

open Sys2Proof.Claims

namespace Sys2Proof.Machine

/-! ### Powers of ALPHA -/

theorem alphaPow_255 : alphaPow 255 = 0x01#8 := (alphaPow_mod 255).symm

theorem alphaPow_ne_zero (i : Nat) : alphaPow i ≠ 0x00#8 := by
  intro h0
  have hmul : alphaPow 255 = fmul (alphaPow (i % 255)) (alphaPow (255 - i % 255)) := by
    rw [← alphaPow_add, Nat.add_sub_cancel' (Nat.mod_lt i (by decide)).le]
  rw [alphaPow_255, alphaPow_mod, h0, fmul_zero_left] at hmul
  exact absurd hmul (by decide)

/-- R71: every nonzero byte is a power of ALPHA. -/
theorem exists_alphaPow_eq {a : Byte} (ha : a ≠ 0x00#8) : ∃ i, i < 255 ∧ alphaPow i = a := by
  obtain ⟨i, -, hi⟩ := read_builtTables_log a ha
  exact ⟨i.toNat % 255, Nat.mod_lt _ (by decide), (alphaPow_mod _).trans hi⟩

/-- A byte is zero or a power of ALPHA. -/
theorem alphaPow_cases {P : Byte → Prop} (zero : P 0x00#8) (pow : ∀ i, i < 255 → P (alphaPow i)) (a : Byte) : P a := by
  by_cases ha : a = 0x00#8
  · exact ha ▸ zero
  · obtain ⟨i, hi, rfl⟩ := exists_alphaPow_eq ha
    exact pow i hi

/-- R74: LOG holds at each power of ALPHA its exponent. -/
theorem read_builtTables_log_alphaPow {i : Nat} (hi : i < 255) :
    Memory.read builtTables.2 (alphaPow i).toNat = some (BitVec.ofNat 8 i) := by
  have hlog : ∀ i, i < 255 → Memory.read logTable (alphaPow i).toNat = some (BitVec.ofNat 8 i) := by decide +kernel
  rw [builtTables_log, hlog i hi]

theorem toNat_ofNat_exponent {i : Nat} (hi : i < 255) : (BitVec.ofNat 8 i).toNat = i := Nat.mod_eq_of_lt (by omega)

/-- R71: the powers 0 to 254 are pairwise different: LOG gives the exponent back. -/
theorem alphaPow_inj {i j : Nat} (hi : i < 255) (hj : j < 255) (h : alphaPow i = alphaPow j) : i = j := by
  have hlog := read_builtTables_log_alphaPow hi
  rw [h, read_builtTables_log_alphaPow hj, Option.some.injEq] at hlog
  rw [← toNat_ofNat_exponent hi, ← hlog, toNat_ofNat_exponent hj]

/-- Settles O29: the nonzero bytes are the powers, and LOG tells these apart. -/
theorem alphaHasOrder255 : Obligations.AlphaHasOrder255 := by
  refine ⟨rfl, alphaPow_255, fun _ _ => alphaPow_inj, fun v => ⟨exists_alphaPow_eq, ?_⟩⟩
  rintro ⟨i, -, rfl⟩
  exact alphaPow_ne_zero i

/-! ### The product without tables -/

theorem fmul_comm (a b : Byte) : fmul a b = fmul b a := by
  cases a using alphaPow_cases with
  | zero => rw [fmul_zero_left, fmul_zero_right]
  | pow i _ =>
    cases b using alphaPow_cases with
    | zero => rw [fmul_zero_left, fmul_zero_right]
    | pow j _ => rw [← alphaPow_add, Nat.add_comm, alphaPow_add]

/-- A product by ALPHA^i is `i` products by ALPHA (R72). -/
theorem fmul_alphaPow (a : Byte) (i : Nat) : fmul a (alphaPow i) = timesAlphaPow a i := by
  induction i with
  | zero => exact fmul_one_right a
  | succ i ih => rw [alphaPow, fmul_xtime, ih, timesAlphaPow]

theorem fmul_assoc (a b c : Byte) : fmul a (fmul b c) = fmul (fmul a b) c := by
  cases c using alphaPow_cases with
  | zero => rw [fmul_zero_right, fmul_zero_right, fmul_zero_right]
  | pow k hk =>
    clear hk
    induction k with
    | zero => rw [alphaPow, fmul_one_right, fmul_one_right]
    | succ k ih => rw [alphaPow, fmul_xtime, fmul_xtime, fmul_xtime, ih]

/-- R77: there are no zero divisors. -/
theorem fmul_eq_zero {a b : Byte} (h : fmul a b = 0x00#8) : a = 0x00#8 ∨ b = 0x00#8 := by
  by_contra hne
  obtain ⟨ha, hb⟩ := not_or.mp hne
  obtain ⟨i, -, rfl⟩ := exists_alphaPow_eq ha
  obtain ⟨j, -, rfl⟩ := exists_alphaPow_eq hb
  exact alphaPow_ne_zero (i + j) ((alphaPow_add i j).trans h)

/-- R76: dividing by ALPHA^j is multiplying by ALPHA^(255-j). -/
theorem fmul_alphaPow_eq_iff {j : Nat} (hj : j < 255) (a q : Byte) :
    fmul q (alphaPow j) = a ↔ q = fmul a (alphaPow (255 - j)) := by
  have hinv : fmul (alphaPow j) (alphaPow (255 - j)) = 0x01#8 := by
    rw [← alphaPow_add, Nat.add_sub_cancel' hj.le, alphaPow_255]
  constructor
  · rintro rfl
    rw [← fmul_assoc, hinv, fmul_one_right]
  · rintro rfl
    rw [← fmul_assoc, fmul_comm (alphaPow _), hinv, fmul_one_right]

/-- The bits of a byte are its coefficients of ALPHA^0 to ALPHA^7 (R4, R72). -/
theorem byte_eq_sum_alphaPow (b : Byte) :
    (List.range 8).foldl (fun p i => if b.getLsbD i then p ^^^ alphaPow i else p) 0x00#8 = b := by
  revert b; decide +kernel

/-- R73: the product is the sum of `a` times ALPHA^i over the bits of `b`. -/
theorem fmul_eq_sum (a b : Byte) :
    fmul a b =
      (List.range 8).foldl (fun p i => if b.getLsbD i then p ^^^ timesAlphaPow a i else p) 0x00#8 := by
  rw [← fmul_zero_right a]
  conv_lhs => rw [← byte_eq_sum_alphaPow b]
  refine (List.foldl_hom (fmul a) fun p i => ?_).symm
  split
  · rw [fmul_xor_right, fmul_alphaPow]
  · rfl

/-- R72: the reduction polynomial without its top bit is 0x1D. -/
theorem xtime_eq (a : Byte) : xtime a = if a.getLsbD 7 then (a <<< 1) ^^^ 0x1D#8 else a <<< 1 := by
  revert a; decide +kernel

/-- Settles O30: the laws of the product, the last for ALPHA^1 = 0x02. -/
theorem productIsPolynomialProduct : Obligations.ProductIsPolynomialProduct :=
  ⟨xtime_eq, fmul_eq_sum, fun a b => ⟨fmul_comm a b, fmul_zero_right a, fmul_one_right a, fmul_alphaPow a 1⟩⟩

/-! ### The product and the quotient with tables -/

/-- The tables hold what R74 states, entry by entry: `State.TablesBuilt` of a pair of tables. -/
structure TablesHold (exp log : Memory) : Prop where
  exp : ∀ {i}, i < 255 → Memory.read exp i = some (alphaPow i)
  log : ∀ {i}, i < 255 → Memory.read log (alphaPow i).toNat = some (BitVec.ofNat 8 i)

theorem builtTables_hold : TablesHold builtTables.1 builtTables.2 where
  exp hi := by rw [← read_builtTables_exp, Nat.mod_eq_of_lt hi]
  log := read_builtTables_log_alphaPow

theorem State.TablesBuilt.hold {s : State} (h : s.TablesBuilt) : TablesHold s.exp s.log where
  exp hi := (h.2 _ hi).1
  log hi := (h.2 _ hi).2

section
variable {exp log : Memory} (h : TablesHold exp log)
include h

theorem TablesHold.exp_mod (i : Nat) : Memory.read exp (i % 255) = some (alphaPow i) := by
  rw [h.exp (Nat.mod_lt i (by decide)), alphaPow_mod]

/-- R75: the table product adds the logarithms. -/
theorem TablesHold.gfmul_eq (a b : Byte) : gfmul exp log a b = some (fmul a b) := by
  cases a using alphaPow_cases with
  | zero => rw [gfmul_zero_left, fmul_zero_left]
  | pow i hi =>
    cases b using alphaPow_cases with
    | zero => rw [gfmul_zero_right, fmul_zero_right]
    | pow j hj =>
      simp only [gfmul, alphaPow_ne_zero, or_self, if_false, h.log hi, h.log hj, toNat_ofNat_exponent hi,
        toNat_ofNat_exponent hj]
      rw [h.exp_mod, alphaPow_add]

/-- R76: the table quotient subtracts the logarithms. -/
theorem TablesHold.gfdiv_eq (a : Byte) {j : Nat} (hj : j < 255) :
    gfdiv exp log a (alphaPow j) = some (fmul a (alphaPow (255 - j))) := by
  cases a using alphaPow_cases with
  | zero => rw [fmul_zero_left, gfdiv, if_pos rfl]
  | pow i hi =>
    simp only [gfdiv, alphaPow_ne_zero, if_false, h.log hi, h.log hj, toNat_ofNat_exponent hi, toNat_ofNat_exponent hj]
    rw [h.exp_mod, Nat.add_sub_assoc hj.le, alphaPow_add]

end

/-- Settles O31: both products add logarithms. -/
theorem tableProductIsFieldProduct : Obligations.TableProductIsFieldProduct := gfmul_builtTables

/-- Settles O32: each law of the table product and quotient is one of the product without tables. -/
theorem fieldArithmeticLaws : Obligations.FieldArithmeticLaws := by
  intro a b c
  have hdiv (a : Byte) {j : Nat} (hj : j < 255) := builtTables_hold.gfdiv_eq a hj
  simp only [gfmul_builtTables, Option.bind_some, Option.map_some, Option.some.injEq]
  refine ⟨BitVec.xor_comm .., BitVec.xor_zero, BitVec.xor_self, fmul_comm a b, fmul_assoc a b c, fmul_xor_right a b c,
    fmul_one_right a, fmul_zero_right a, fmul_eq_zero, fun hb => ?_, fun ha => ?_, ?_, ?_⟩
  · obtain ⟨j, hj, rfl⟩ := exists_alphaPow_eq hb
    rw [hdiv a hj, hdiv 0 hj, Option.bind_some]
    exact ⟨⟨_, rfl⟩, congrArg some ((fmul_alphaPow_eq_iff hj a _).mpr rfl), congrArg some (fmul_zero_left _)⟩
  · obtain ⟨i, hi, rfl⟩ := exists_alphaPow_eq ha
    rw [hdiv _ hi, ← alphaPow_add, Nat.add_sub_cancel' hi.le, alphaPow_255]; rfl
  · refine (hdiv a (j := 0) (by decide)).trans ?_
    rw [alphaPow_255, fmul_one_right]
  · rintro i hi rfl
    rw [hdiv 1 hi, fmul_comm, alphaPow_mod]
    exact congrArg some (fmul_one_right _)

end Sys2Proof.Machine
end

section
/-! What the loop of `GFINIT` leaves in the tables, at every index (40_gf_engine.md R74, R78). -/

namespace Sys2Proof.Machine

/-- The loop writes the powers of ALPHA to EXP, from index `i` on, `n` of them, and no other entry. -/
theorem read_buildTablesFrom_exp (n i : Nat) (t : Memory × Memory) (c : Nat) :
    Memory.read (buildTablesFrom n i (alphaPow i) t).1 c =
      if i ≤ c ∧ c < i + n then some (alphaPow c) else Memory.read t.1 c := by
  induction n generalizing i t with
  | zero => rw [if_neg (by omega)]; rfl
  | succ n ih =>
    refine (ih (i + 1) _).trans ?_
    rw [Memory.read_write]
    by_cases hc : c = i
    · rw [if_neg (by omega), if_pos hc, if_pos (by omega), hc]
    · rw [if_neg hc]
      exact if_congr (by omega) rfl rfl

/-- An entry of LOG after the loop stood there before, or the loop wrote it: an exponent at its power. -/
theorem read_buildTablesFrom_log {n i : Nat} {t : Memory × Memory} {v : Nat} {k : Byte}
    (h : Memory.read (buildTablesFrom n i (alphaPow i) t).2 v = some k) :
    Memory.read t.2 v = some k ∨ ∃ c, c < i + n ∧ v = (alphaPow c).toNat ∧ k = BitVec.ofNat 8 c := by
  induction n generalizing i t with
  | zero => exact .inl h
  | succ n ih =>
    rcases ih (i := i + 1) h with h | ⟨c, hc, hv⟩
    · rw [Memory.read_write] at h
      split at h
      · next hv => exact .inr ⟨i, by omega, hv, (Option.some.inj h).symm⟩
      · exact .inl h
    · exact .inr ⟨c, by omega, hv⟩

theorem read_builtTables_exp_eq (i : Nat) :
    Memory.read builtTables.1 i = if i < 255 then some (alphaPow i) else none := by
  refine (read_buildTablesFrom_exp 255 0 ([], []) i).trans ?_
  simp

/-- R74: LOG is the inverse of EXP, and holds nothing else. -/
theorem read_builtTables_log_iff (v : Nat) (k : Byte) :
    Memory.read builtTables.2 v = some k ↔ k.toNat < 255 ∧ v = (alphaPow k.toNat).toNat := by
  constructor
  · intro h
    rcases read_buildTablesFrom_log (n := 255) (i := 0) (t := ([], [])) h with h | ⟨c, hc, rfl, rfl⟩
    · cases h
    · rw [toNat_ofNat_exponent (by omega)]
      exact ⟨by omega, rfl⟩
  · rintro ⟨hk, rfl⟩
    rw [read_builtTables_log_alphaPow hk, BitVec.ofNat_toNat, BitVec.setWidth_eq]

end Sys2Proof.Machine
end

section
/-! The Galois-field commands (40_gf_engine.md R78 to R85). -/

open Sys2Proof.Claims

namespace Sys2Proof.Machine

/-! ### What the commands share -/

/-- R62: a command's encoding is its only word. -/
theorem onlyWord_encode (i : Instr) : OnlyWord i (encode i) := fun _ => decode_eq_ok_iff

section
variable {s : State} (hf : s.fault = false)
include hf

/-- R146: without tables a table-using command faults, whatever its operands. -/
theorem runCommand_needTables_of_not_tv (htv : s.tv = false) (w : Word) (e : Effect) :
    runCommand w s (needTables s e) = .next (faulted s 7 w) := by
  rw [needTables, htv]
  exact runCommand_raise hf w .tablesNotReady

/-- R146: with tables a zero operand faults where it is not allowed. -/
theorem runCommand_needTables_of_zero (htv : s.tv = true) (w : Word) {b : Byte} (hb : b = 0x00#8) (e : Effect) :
    runCommand w s (needTables s (if b = 0x00#8 then .raise .fieldArithmeticError else e)) = .next (faulted s 4 w) := by
  rw [needTables, if_pos htv, if_pos hb]
  exact runCommand_raise hf w .fieldArithmeticError

/-- A table-using command that finds its value completes and writes it to its destination. -/
theorem runCommand_needTables_of_value (htv : s.tv = true) (w : Word) {rd : Reg} {x : Option Byte} {v : Byte}
    (hx : x = some v) :
    runCommand w s (needTables s (Effect.withValue x fun v => .commit (s.setReg rd v))) =
      .next { s with g := s.g.set rd.toNat v rd.isLt, cseq := s.cseq + 1 } := by
  rw [needTables, if_pos htv, hx]
  exact runCommand_commit hf w (s.setReg rd v)

end

/-! ### The tables -/

/-- R78: what a completing `GFINIT` without tables changes. For any tables: an `rfl` about those it builds would evaluate
its loop. -/
theorem State.complete_setTables (s : State) (exp log : Memory) :
    (s.setTables exp log).complete = { s with exp := exp, log := log, tv := true, cseq := s.cseq + 1 } := rfl

/-- Settles O33: without a fault the command commits what the loop built, whose reads are the powers and their inverse. -/
theorem gfinitBuildsTheTables : Obligations.GfinitBuildsTheTables := by
  refine ⟨onlyWord_encode .gfinit, fun s hf => ?_, fun s hf htv => ?_, fun s hf htv => ?_⟩
  · rw [exec, execGfinit]
    exact runCommand_faulted hf _ _
  · rw [exec, execGfinit, if_pos htv]
    exact runCommand_commit hf _ s
  · refine ⟨builtTables.1, builtTables.2, read_builtTables_exp_eq, read_builtTables_log_iff, ?_⟩
    rw [exec, execGfinit, if_neg (Bool.eq_false_iff.mp htv), runCommand_commit hf, State.complete_setTables]

/-- Settles O34: the command commits in either case. -/
theorem gffinTearsTheTablesDown : Obligations.GffinTearsTheTablesDown := by
  refine ⟨onlyWord_encode .gffin, fun s hf htv => ?_, fun s hf htv => ?_⟩
  · rw [exec, execGffin, if_neg (Bool.eq_false_iff.mp htv)]
    exact runCommand_commit hf _ s
  · rw [exec, execGffin, if_pos htv]
    exact runCommand_commit hf _ s.dropTables

/-! ### The commands without tables -/

/-- Settles O35: the command has no check. -/
theorem liLoadsAByte : Obligations.LiLoadsAByte :=
  fun rd imm8 => ⟨onlyWord_encode (.li rd imm8), fun s hf =>
    runCommand_commit hf (encode (.li rd imm8)) (s.setReg rd imm8)⟩

/-- Settles O36: the command has no check, and the registers it reads are those before the write. -/
theorem gfaddAdds : Obligations.GfaddAdds :=
  fun rd ra rb => ⟨rfl, onlyWord_encode (.gfadd rd ra rb), fun s hf =>
    runCommand_commit hf (encode (.gfadd rd ra rb)) (s.setReg rd (gfadd (s.reg ra) (s.reg rb)))⟩

/-! ### The commands with tables -/

/-- Settles O37: the value is the product, which adds the logarithms. -/
theorem gfmulMultiplies : Obligations.GfmulMultiplies := by
  intro rd ra rb
  refine ⟨onlyWord_encode (.gfmul rd ra rb), fun s hf => ⟨fun htv => ?_, fun hs => ?_⟩⟩
  · exact runCommand_needTables_of_not_tv hf htv _ _
  · refine ⟨fmul (s.reg ra) (s.reg rb), ?_, fun ha hb => ?_, ?_⟩
    · rintro (h | h) <;> rw [h]
      · exact fmul_zero_left _
      · exact fmul_zero_right _
    · obtain ⟨i, hi, ha⟩ := exists_alphaPow_eq ha
      obtain ⟨j, hj, hb⟩ := exists_alphaPow_eq hb
      exact ⟨i, j, hi, hj, ha, hb, by rw [alphaPow_mod, alphaPow_add, ha, hb]⟩
    · exact runCommand_needTables_of_value hf hs.1 _ (hs.hold.gfmul_eq _ _)

/-- Settles O38: the value is the product by the inverse of the divisor. -/
theorem gfdivDivides : Obligations.GfdivDivides := by
  intro rd ra rb
  refine ⟨onlyWord_encode (.gfdiv rd ra rb), fun s hf =>
    ⟨fun htv => ?_, fun htv hb => ?_, fun hs (hb : s.reg rb ≠ 0x00#8) => ?_⟩⟩
  · exact runCommand_needTables_of_not_tv hf htv _ _
  · exact runCommand_needTables_of_zero hf htv _ hb _
  · obtain ⟨j, hj, hjb⟩ := exists_alphaPow_eq hb
    refine ⟨fmul (s.reg ra) (alphaPow (255 - j)), fun ha => ?_, fun ha => ?_, fun q => ?_, ?_⟩
    · rw [ha]
      exact fmul_zero_left _
    · obtain ⟨i, hi, hia⟩ := exists_alphaPow_eq ha
      exact ⟨i, j, hi, hj, hia, hjb, by rw [alphaPow_mod, Nat.add_sub_assoc hj.le i, alphaPow_add i, hia]⟩
    · rw [← hjb, fmul_alphaPow_eq_iff hj]
    · rw [exec, execGfdiv, if_neg hb]
      exact runCommand_needTables_of_value hf hs.1 _ (hjb ▸ hs.hold.gfdiv_eq (s.reg ra) hj)

/-- Settles O39: the value is the entry of EXP at the reduced exponent. -/
theorem gfexpReadsThePower : Obligations.GfexpReadsThePower := by
  intro rd ra
  refine ⟨onlyWord_encode (.gfexp rd ra), fun s hf => ⟨fun htv => ?_, fun hs => ?_⟩⟩
  · exact runCommand_needTables_of_not_tv hf htv _ _
  · exact runCommand_needTables_of_value hf hs.1 _ (hs.hold.exp (Nat.mod_lt _ (by decide)))

/-- Settles O40: the value is the entry of LOG at the power that the source is. -/
theorem gflogReadsTheLogarithm : Obligations.GflogReadsTheLogarithm := by
  intro rd ra
  refine ⟨onlyWord_encode (.gflog rd ra), fun s hf =>
    ⟨fun htv => ?_, fun htv ha => ?_, fun hs (ha : s.reg ra ≠ 0x00#8) => ?_⟩⟩
  · exact runCommand_needTables_of_not_tv hf htv _ _
  · exact runCommand_needTables_of_zero hf htv _ ha _
  · obtain ⟨i, hi, hia⟩ := exists_alphaPow_eq ha
    have hlog : (BitVec.ofNat 8 i).toNat = i := toNat_ofNat_exponent hi
    refine ⟨BitVec.ofNat 8 i, by rwa [hlog], by rwa [hlog], ?_⟩
    rw [exec, execGflog, if_neg ha]
    exact runCommand_needTables_of_value hf hs.1 _ (hia ▸ hs.hold.log hi)

end Sys2Proof.Machine
end

section
/-! Polynomials over the field as lists of coefficients, lowest degree first: their sums, their values at a point, and the
roots of the generator (41_rs_encoder.md R91). -/

namespace Sys2Proof.Machine

/-! ### Sums -/

theorem polyAdd_comm (p q : List Byte) : polyAdd p q = polyAdd q p := by
  induction p generalizing q with
  | nil => exact (polyAdd_nil_right q).symm
  | cons a p ih =>
    cases q with
    | nil => rfl
    | cons b q => rw [polyAdd, polyAdd, ih, gfadd, gfadd, BitVec.xor_comm]

theorem polyAdd_assoc (p q s : List Byte) : polyAdd (polyAdd p q) s = polyAdd p (polyAdd q s) := by
  induction p generalizing q s with
  | nil => rfl
  | cons a p ih =>
    cases q with
    | nil => rfl
    | cons b q =>
      cases s with
      | nil => rfl
      | cons c s => simp only [polyAdd, ih, gfadd, BitVec.xor_assoc]

theorem length_polyAdd (p q : List Byte) : (polyAdd p q).length = max p.length q.length := by
  induction p generalizing q with
  | nil => exact (Nat.zero_max _).symm
  | cons a p ih =>
    cases q with
    | nil => rfl
    | cons b q => rw [polyAdd, List.length_cons, ih, List.length_cons, List.length_cons, Nat.succ_max_succ]

/-- Lists are added part by part where their first parts are equally long. -/
theorem polyAdd_append {p q : List Byte} (h : p.length = q.length) (s t : List Byte) :
    polyAdd (p ++ s) (q ++ t) = polyAdd p q ++ polyAdd s t := by
  induction p generalizing q with
  | nil =>
    cases List.length_eq_zero_iff.mp h.symm
    rfl
  | cons a p ih =>
    obtain ⟨b, q, rfl⟩ := List.exists_cons_of_length_eq_add_one h.symm
    exact congrArg (gfadd a b :: ·) (ih (Nat.succ.inj h))

theorem polyAdd_eq_zipWith {p q : List Byte} (h : p.length = q.length) : polyAdd p q = List.zipWith gfadd p q := by
  induction p generalizing q with
  | nil =>
    cases List.length_eq_zero_iff.mp h.symm
    rfl
  | cons a p ih =>
    obtain ⟨b, q, rfl⟩ := List.exists_cons_of_length_eq_add_one h.symm
    exact congrArg (gfadd a b :: ·) (ih (Nat.succ.inj h))

theorem zeros_polyAdd {n : Nat} {p : List Byte} (h : n ≤ p.length) : polyAdd (List.replicate n 0x00#8) p = p := by
  induction n generalizing p with
  | zero => rfl
  | succ n ih =>
    cases p with
    | nil => cases h
    | cons a p => rw [List.replicate_succ, polyAdd, gfadd, BitVec.zero_xor, ih (Nat.le_of_succ_le_succ h)]

/-- The field has characteristic 2. -/
theorem polyAdd_self (p : List Byte) : polyAdd p p = List.replicate p.length 0x00#8 := by
  induction p with
  | nil => rfl
  | cons a p ih => rw [polyAdd, ih, gfadd, BitVec.xor_self]; rfl

theorem polyAdd_left_cancel {p q s : List Byte} (hq : p.length ≤ q.length) (hs : p.length ≤ s.length)
    (h : polyAdd p q = polyAdd p s) : q = s := by
  have htwice : polyAdd (polyAdd p p) q = polyAdd (polyAdd p p) s := by rw [polyAdd_assoc, h, polyAdd_assoc]
  rwa [polyAdd_self, zeros_polyAdd hq, zeros_polyAdd hs] at htwice

/-- In characteristic 2 a summand moves to the other side. -/
theorem polyAdd_eq_iff {p e s : List Byte} (he : e.length ≤ s.length) :
    polyAdd p e = s ↔ polyAdd (List.replicate e.length 0x00#8) p = polyAdd s e := by
  constructor
  · rintro rfl
    rw [polyAdd_assoc, polyAdd_self, polyAdd_comm]
  · intro h
    calc polyAdd p e = polyAdd (polyAdd (List.replicate e.length 0x00#8) p) e := by
          rw [polyAdd_comm _ p, polyAdd_assoc, zeros_polyAdd le_rfl]
      _ = s := by rw [h, polyAdd_assoc, polyAdd_self, polyAdd_comm, zeros_polyAdd he]

/-! ### Values -/

/-- The value of a polynomial at a point: `horner` for coefficients listed lowest degree first. -/
def polyEval (p : List Byte) (x : Byte) : Byte := horner p.reverse x

theorem horner_eq_polyEval (c : List Byte) (x : Byte) : horner c x = polyEval c.reverse x := by
  rw [polyEval, List.reverse_reverse]

theorem polyEval_nil (x : Byte) : polyEval [] x = 0x00#8 := rfl

theorem polyEval_cons (a : Byte) (p : List Byte) (x : Byte) : polyEval (a :: p) x = fmul (polyEval p x) x ^^^ a := by
  rw [polyEval, List.reverse_cons, horner, List.foldl_append]; rfl

theorem polyEval_zeros (n : Nat) (x : Byte) : polyEval (List.replicate n 0x00#8) x = 0x00#8 := by
  induction n with
  | zero => rfl
  | succ n ih => rw [List.replicate_succ, polyEval_cons, ih, fmul_zero_left, BitVec.xor_zero]

theorem polyEval_polyAdd (p q : List Byte) (x : Byte) : polyEval (polyAdd p q) x = polyEval p x ^^^ polyEval q x := by
  induction p generalizing q with
  | nil => exact BitVec.zero_xor.symm
  | cons a p ih =>
    cases q with
    | nil => exact BitVec.xor_zero.symm
    | cons b q =>
      rw [polyAdd, polyEval_cons, polyEval_cons, polyEval_cons, ih, fmul_xor_left, gfadd]
      ac_rfl

theorem polyEval_map_fmul (a : Byte) (p : List Byte) (x : Byte) :
    polyEval (p.map (fmul a)) x = fmul a (polyEval p x) := by
  induction p with
  | nil => exact (fmul_zero_right a).symm
  | cons b p ih => rw [List.map_cons, polyEval_cons, polyEval_cons, ih, fmul_xor_right, fmul_assoc]

theorem polyEval_polyMul (p q : List Byte) (x : Byte) :
    polyEval (polyMul p q) x = fmul (polyEval p x) (polyEval q x) := by
  induction p with
  | nil => exact (fmul_zero_left _).symm
  | cons a p ih =>
    rw [polyMul, polyEval_polyAdd, polyEval_map_fmul, polyEval_cons, ih, polyEval_cons, fmul_xor_left, BitVec.xor_zero,
      ← fmul_assoc, fmul_comm (polyEval q x), fmul_assoc, BitVec.xor_comm]

/-! ### The generator -/

/-- R91: one more factor, coefficient by coefficient. -/
theorem refGenerator_succ (r : Nat) :
    refGenerator (r + 1) =
      List.zipWith gfadd (0x00#8 :: refGenerator r) ((refGenerator r).map (fmul · (alphaPow r)) ++ [0x00#8]) := by
  have hpos : 1 ≤ (refGenerator (r + 1)).length := by rw [refGenerator_length]; exact Nat.le_add_left 1 _
  rw [← polyAdd_polyMul_linear]
  exact (zeros_polyAdd hpos).symm

/-- R91: the generator is monic. -/
theorem refGenerator_eq_concat_one (r : Nat) : ∃ p, p.length = r ∧ refGenerator r = p ++ [0x01#8] := by
  induction r with
  | zero => exact ⟨[], rfl, rfl⟩
  | succ r ih =>
    obtain ⟨p, rfl, hr⟩ := ih
    have hlen : (0x00#8 :: p).length = ((refGenerator p.length).map (fmul · (alphaPow p.length))).length := by
      rw [List.length_map, refGenerator_length, List.length_cons]
    refine ⟨List.zipWith gfadd (0x00#8 :: p) ((refGenerator p.length).map (fmul · (alphaPow p.length))), ?_, ?_⟩
    · rw [List.length_zipWith, ← hlen, Nat.min_self, List.length_cons]
    · rw [refGenerator_succ]
      conv_lhs => rw [hr, ← List.cons_append, ← hr]
      exact List.zipWith_append hlen

theorem getElem?_refGenerator (r : Nat) : (refGenerator r)[r]? = some 0x01#8 := by
  obtain ⟨p, rfl, hr⟩ := refGenerator_eq_concat_one r
  rw [hr]
  exact List.getElem?_concat_length

/-- R91: the roots of the generator, each that of its factor. -/
theorem polyEval_refGenerator {i r : Nat} (hi : i < r) : polyEval (refGenerator r) (alphaPow i) = 0x00#8 := by
  induction r with
  | zero => cases hi
  | succ r ih =>
    rw [refGenerator, polyEval_polyMul]
    rcases Nat.lt_succ_iff_lt_or_eq.mp hi with hlt | rfl
    · rw [ih hlt, fmul_zero_left]
    · have hroot : polyEval [alphaPow i, 0x01#8] (alphaPow i) = 0x00#8 := by
        simp [polyEval_cons, polyEval_nil, fmul_zero_left, fmul_comm 0x01#8, fmul_one_right]
      rw [hroot, fmul_zero_right]

/-- Settles O41. -/
theorem generatorIsProductOfRoots : Obligations.GeneratorIsProductOfRoots := fun r _ =>
  ⟨generator_builtTables r, refGenerator_length r, getElem?_refGenerator r, fun _ => polyEval_refGenerator⟩

end Sys2Proof.Machine
end

section
/-! Division by the generator with remainder (41_rs_encoder.md R92): a round of the table loop appends one data byte to the
division, the remainder is unique, and data followed by it is a multiple of the generator (R95). -/

namespace Sys2Proof.Machine

/-! ### Multiples of a monic polynomial -/

theorem polyMul_cons (f g : Byte) (q gs : List Byte) :
    polyMul (f :: q) (g :: gs) = fmul f g :: polyAdd (gs.map (fmul f)) (polyMul q (g :: gs)) := by
  rw [polyMul, List.map_cons, polyAdd, gfadd, BitVec.xor_zero]

/-- A factor times a monic polynomial has the factor as its top coefficient. -/
theorem polyAdd_map_monic (f : Byte) {gs es : List Byte} (h : gs.length = es.length) (s : List Byte) :
    polyAdd ((gs ++ [0x01#8]).map (fmul f)) (es ++ s) = polyAdd (gs.map (fmul f)) es ++ polyAdd [f] s := by
  rw [List.map_append, List.map_cons, List.map_nil, fmul_one_right, polyAdd_append (by rwa [List.length_map])]

/-- A polynomial is a multiple of a monic one plus a remainder in one way only: the lowest coefficients peel off, and the top
coefficient of what remains of the divisor gives the quotient's coefficient. -/
theorem polyAdd_polyMul_unique {g : Byte} {gs q q' e e' : List Byte} (hq : q.length = q'.length)
    (he : e.length = gs.length + 1) (he' : e'.length = gs.length + 1)
    (h : polyAdd (polyMul q (g :: (gs ++ [0x01#8]))) e = polyAdd (polyMul q' (g :: (gs ++ [0x01#8]))) e') : e = e' := by
  induction q generalizing q' e e' with
  | nil =>
    cases List.length_eq_zero_iff.mp hq.symm
    exact h
  | cons f q ih =>
    obtain ⟨f', q', rfl⟩ := List.exists_cons_of_length_eq_add_one hq.symm
    obtain ⟨a, e, rfl⟩ := List.exists_cons_of_length_eq_add_one he
    obtain ⟨a', e', rfl⟩ := List.exists_cons_of_length_eq_add_one he'
    have he : gs.length = e.length := (Nat.succ.inj he).symm
    have he' : gs.length = e'.length := (Nat.succ.inj he').symm
    have htop (f : Byte) {e : List Byte} (he : gs.length = e.length) := by
      simpa only [List.append_nil, polyAdd_nil_right] using polyAdd_map_monic f he []
    rw [polyMul_cons, polyMul_cons, polyAdd, polyAdd, List.cons.injEq, polyAdd_comm _ (polyMul q _),
      polyAdd_comm _ (polyMul q' _), polyAdd_assoc, polyAdd_assoc, htop f he, htop f' he'] at h
    obtain ⟨hlow, hrest⟩ := h
    have hnext := ih (Nat.succ.inj hq) (by simp [length_polyAdd, he]) (by simp [length_polyAdd, he']) hrest
    obtain ⟨hsum, hf⟩ := List.append_inj' hnext rfl
    cases hf
    rw [polyAdd_left_cancel (by simp [he]) (by simp [he']) hsum, (BitVec.xor_right_inj _).mp hlow]

/-- One round of the division of R92: from a multiple of a monic polynomial of degree `r`, listed as its low coefficients
`es`, its coefficient `t` at degree `r - 1` and the data `ds`, to the multiple that has one more data byte `b`. -/
theorem polyMul_divisionRound {g b t : Byte} {gs es q ds : List Byte} (hlen : gs.length = es.length)
    (h : polyAdd (List.replicate (gs.length + 1) 0x00#8) (polyMul q (g :: (gs ++ [0x01#8]))) = es ++ t :: ds) :
    polyAdd (List.replicate (gs.length + 1) 0x00#8) (polyMul (gfadd b t :: q) (g :: (gs ++ [0x01#8]))) =
      fmul (gfadd b t) g :: polyAdd (gs.map (fmul (gfadd b t))) es ++ b :: ds := by
  set f := gfadd b t with hf
  have hzeros {k : Nat} (hk : k ≤ gs.length + 1) :
      polyAdd (List.replicate k 0x00#8) ((gs ++ [0x01#8]).map (fmul f)) = (gs ++ [0x01#8]).map (fmul f) :=
    zeros_polyAdd (by simpa using hk)
  have htop : polyAdd [f] (t :: ds) = b :: ds := by
    rw [polyAdd, hf, gfadd, gfadd, BitVec.xor_assoc, BitVec.xor_self, BitVec.xor_zero]
    rfl
  rw [polyMul_cons, List.replicate_succ, polyAdd, gfadd, BitVec.zero_xor, List.cons_append]
  congr 1
  calc polyAdd (List.replicate gs.length 0x00#8)
          (polyAdd ((gs ++ [0x01#8]).map (fmul f)) (polyMul q (g :: (gs ++ [0x01#8])))) =
        polyAdd ((gs ++ [0x01#8]).map (fmul f))
          (polyAdd (List.replicate (gs.length + 1) 0x00#8) (polyMul q (g :: (gs ++ [0x01#8])))) := by
        rw [← polyAdd_assoc, ← polyAdd_assoc, hzeros (Nat.le_succ _), polyAdd_comm _ (List.replicate _ _), hzeros le_rfl]
    _ = polyAdd (gs.map (fmul f)) es ++ b :: ds := by rw [h, polyAdd_map_monic f hlen, htop]

/-! ### Remainders -/

/-- A generator of positive degree, lowest coefficient and top coefficient apart. -/
theorem exists_refGenerator_eq {r : Nat} (hr : 1 ≤ r) :
    ∃ g gs, gs.length + 1 = r ∧ refGenerator r = g :: (gs ++ [0x01#8]) := by
  obtain ⟨p, hp, hgen⟩ := refGenerator_eq_concat_one r
  obtain ⟨g, gs, rfl⟩ := List.exists_cons_of_length_pos (hp.symm ▸ hr)
  exact ⟨g, gs, hp, hgen⟩

/-- R92, R95: the remainder is what makes data followed by it a multiple of the generator. -/
theorem isRemainder_iff {d e : List Byte} {r : Nat} :
    IsRemainder d e r ↔
      e.length = r ∧ ∃ q : List Byte, q.length = d.length ∧
        polyAdd (List.replicate r 0x00#8) (polyMul q (refGenerator r)) = (d ++ e).reverse := by
  refine and_congr_right fun he => exists_congr fun q => and_congr_right fun _ => ?_
  subst he
  have hsum : polyAdd (List.replicate e.length 0x00#8 ++ d.reverse) e.reverse = (d ++ e).reverse := by
    have h := polyAdd_append (p := List.replicate e.length 0x00#8) (q := e.reverse) (by simp) d.reverse []
    rwa [List.append_nil, zeros_polyAdd (by simp), polyAdd_nil_right, ← List.reverse_append] at h
  rw [← hsum, polyAdd_eq_iff (by simp), List.length_reverse]

theorem isRemainder_nil (r : Nat) : IsRemainder [] (List.replicate r 0x00#8) r :=
  ⟨List.length_replicate, [], rfl, by simp [polyMul, polyAdd]⟩

theorem IsRemainder.unique {d e e' : List Byte} {r : Nat} (hr : 1 ≤ r) (h : IsRemainder d e r)
    (h' : IsRemainder d e' r) : e = e' := by
  obtain ⟨g, gs, rfl, hgen⟩ := exists_refGenerator_eq hr
  obtain ⟨he, q, hq, hmul⟩ := h
  obtain ⟨he', q', hq', hmul'⟩ := h'
  rw [hgen] at hmul hmul'
  exact List.reverse_injective (polyAdd_polyMul_unique (hq.trans hq'.symm) (by simpa using he) (by simpa using he')
    (hmul.trans hmul'.symm))

/-- R95: a multiple of the generator has its roots. -/
theorem IsRemainder.horner_eq_zero {d e : List Byte} {r i : Nat} (h : IsRemainder d e r) (hi : i < r) :
    horner (d ++ e) (alphaPow i) = 0x00#8 := by
  obtain ⟨-, q, -, hmul⟩ := isRemainder_iff.mp h
  rw [horner_eq_polyEval, ← hmul, polyEval_polyAdd, polyEval_zeros, polyEval_polyMul, polyEval_refGenerator hi,
    fmul_zero_right, BitVec.xor_zero]

/-! ### The table loops -/

section
variable {exp log : Memory} (h : TablesHold exp log)
include h

/-- R92: a round with the tables, the remainder listed lowest degree first. -/
theorem TablesHold.remainderRound_eq {g b t : Byte} {gs es : List Byte} (hlen : gs.length = es.length) :
    remainderRound exp log (g :: (gs ++ [0x01#8])) (t :: es.reverse) b =
      some (fmul (gfadd b t) g :: polyAdd (gs.map (fmul (gfadd b t))) es).reverse := by
  have hprod (f : Byte) :
      ((g :: gs).reverse.mapM fun c => gfmul exp log f c) = some ((g :: gs).reverse.map (fmul f)) := by
    simp only [h.gfmul_eq]; exact List.mapM_pure
  have hshift (f : Byte) : fmul f g :: polyAdd (gs.map (fmul f)) es =
      List.zipWith gfadd (0x00#8 :: es) ((g :: gs).map (fmul f)) := by
    rw [polyAdd_comm, polyAdd_eq_zipWith (by simp [hlen]), List.map_cons, List.zipWith_cons_cons, gfadd, BitVec.zero_xor]
  rw [remainderRound, ← List.cons_append, List.dropLast_concat, List.headD_cons, hprod, hshift,
    List.reverse_zipWith (by simp [hlen]), List.map_reverse, List.reverse_cons]
  rfl

/-- R92: a round takes the remainder of a data block to that of the block with one more byte. -/
theorem TablesHold.exists_remainderRound {d e : List Byte} {r : Nat} (hr : 1 ≤ r) (he : IsRemainder d e r) (b : Byte) :
    ∃ e', remainderRound exp log (refGenerator r) e b = some e' ∧ IsRemainder (d ++ [b]) e' r := by
  obtain ⟨g, gs, rfl, hgen⟩ := exists_refGenerator_eq hr
  obtain ⟨hlen, q, hq, hmul⟩ := isRemainder_iff.mp he
  obtain ⟨t, es, rfl⟩ := List.exists_cons_of_length_eq_add_one hlen
  have hes : gs.length = es.reverse.length := by simpa using (Nat.succ.inj hlen).symm
  have hround := h.remainderRound_eq (g := g) (b := b) (t := t) hes
  rw [List.reverse_reverse] at hround
  refine ⟨_, hgen ▸ hround, isRemainder_iff.mpr ⟨by simp [length_polyAdd, hes], gfadd b t :: q, by simp [hq], ?_⟩⟩
  rw [hgen] at hmul ⊢
  rw [polyMul_divisionRound hes (by simpa using hmul)]
  simp

/-- R92: the EC bytes computed with the tables are the remainder. -/
theorem TablesHold.exists_remainder {r : Nat} (hr : 1 ≤ r) (d : List Byte) :
    ∃ e, remainder exp log d (refGenerator r) = some e ∧ IsRemainder d e r := by
  induction d using List.reverseRecOn with
  | nil => exact ⟨_, by rw [remainder, refGenerator_length]; rfl, isRemainder_nil r⟩
  | append_singleton d b ih =>
    obtain ⟨e, hrem, he⟩ := ih
    obtain ⟨e', hround, he'⟩ := h.exists_remainderRound hr he b
    refine ⟨e', ?_, he'⟩
    rw [remainder] at hrem ⊢
    rw [List.foldlM_append, hrem]
    exact (bind_pure _).trans hround

end

/-- Settles O42. -/
theorem ecBytesAreTheRemainder : Obligations.EcBytesAreTheRemainder := by
  intro r d hr
  obtain ⟨e, hrem, he⟩ := builtTables_hold.exists_remainder hr d
  refine ⟨e, hrem, he, fun e' he' => he'.unique hr he, ?_⟩
  rintro rfl
  exact he.unique hr (isRemainder_nil r)

/-- Settles O43: the EC bytes are the remainder, and the codeword a multiple of the generator. -/
theorem codewordsHaveZeroSyndromes : Obligations.CodewordsHaveZeroSyndromes := by
  intro r d gen e hr hgen hrem i hi
  cases (generator_builtTables r).symm.trans hgen
  obtain ⟨e', hrem', he⟩ := builtTables_hold.exists_remainder hr d
  cases hrem'.symm.trans hrem
  exact he.horner_eq_zero hi

end Sys2Proof.Machine
end

section
/-! The commands of the Reed-Solomon encoder (41_rs_encoder.md R93, R94), and that the EC bytes depend on the data and the
count alone (R96). -/

open Sys2Proof.Claims

namespace Sys2Proof.Machine

/-! ### Whatever tables a state holds -/

section
variable {exp log : Memory} (h : TablesHold exp log)
include h

theorem TablesHold.gfmul_eq_builtTables : gfmul exp log = gfmul builtTables.1 builtTables.2 := by
  funext a b
  rw [h.gfmul_eq, gfmul_builtTables]

/-- R91: any tables that hold what R74 states give the generator. -/
theorem TablesHold.generator_eq (r : Nat) : generator exp log r = some (refGenerator r) := by
  have hround : generatorRound exp log = generatorRound builtTables.1 builtTables.2 := by
    funext gen root
    rw [generatorRound, generatorRound, h.gfmul_eq_builtTables]
  induction r with
  | zero => rfl
  | succ r ih =>
    rw [generator_succ, ih, h.exp_mod, hround, ← read_builtTables_exp, ← generator_builtTables, ← generator_succ,
      generator_builtTables]

/-- R92: any such tables give the same EC bytes. -/
theorem TablesHold.remainder_eq_builtTables : remainder exp log = remainder builtTables.1 builtTables.2 := by
  have hround : remainderRound exp log = remainderRound builtTables.1 builtTables.2 := by
    funext gen rem b
    rw [remainderRound, remainderRound, h.gfmul_eq_builtTables]
  funext d gen
  rw [remainder, remainder, hround]

end

/-! ### The data of a state -/

theorem mapM_range_eq_some {α : Type} {f : Nat → Option α} {ys : List α} (h : ∀ x, x < ys.length → f x = ys[x]?) :
    (List.range ys.length).mapM f = some ys := by
  induction ys using List.reverseRecOn with
  | nil => rfl
  | append_singleton ys y ih =>
    have hinit := ih fun x hx => by
      rw [h x (by rw [List.length_append]; omega), List.getElem?_append_left hx]
    have hlast : f ys.length = some y := by rw [h _ (by simp), List.getElem?_concat_length]
    rw [List.length_append, List.length_singleton, List.range_succ, List.mapM_append, hinit]
    simp [hlast]

/-- R33, R103: a slice within the data is that part of it. -/
theorem slice_of_holdsData {s : State} {d : List Byte} (h : HoldsData s d) {off n : Nat} (hle : off + n ≤ d.length) :
    Memory.slice s.dmem off n = some ((d.drop off).take n) := by
  have hlen : ((d.drop off).take n).length = n := by rw [List.length_take, List.length_drop]; omega
  have hread := mapM_range_eq_some (f := fun x => Memory.read s.dmem (off + x)) (ys := (d.drop off).take n) fun x hx => by
    rw [hlen] at hx
    rw [List.getElem?_take_of_lt hx, List.getElem?_drop]
    exact h.2 _ (by omega)
  rwa [hlen] at hread

/-- R94: the data block of `RSENC` is the whole of the data. -/
theorem slice_zero_of_holdsData {s : State} {d : List Byte} (h : HoldsData s d) :
    Memory.slice s.dmem 0 s.dlen.toNat = some d := by
  rw [← h.1, slice_of_holdsData h (by omega), List.drop_zero, List.take_length]

/-! ### The count -/

section
variable {s : State} {v : BitVec 16} {k : Nat → Effect}

theorem withCount_of_nonpos (h : v.toInt ≤ 0) : withCount s v k = .raise .fieldArithmeticError := if_pos h

theorem withCount_of_gt (h : (s.sizes.rmax : Int) < v.toInt) : withCount s v k = .raise .bufferBounds := by
  rw [withCount, signedCount, if_neg (by omega), if_pos h]

/-- R54: a positive signed count is the unsigned one. -/
theorem toNat_toInt_of_pos (h : 0 < v.toInt) : v.toInt.toNat = v.toNat := by
  rw [BitVec.toInt_eq_toNat_cond] at h ⊢
  split <;> omega

theorem one_le_toNat_of_pos (h : 0 < v.toInt) : 1 ≤ v.toNat := by
  rw [← toNat_toInt_of_pos h]
  omega

theorem withCount_of_inRange (h0 : 0 < v.toInt) (h1 : v.toInt ≤ s.sizes.rmax) : withCount s v k = k v.toNat := by
  rw [withCount, signedCount, if_neg (not_le.mpr h0), if_neg (not_lt.mpr h1), toNat_toInt_of_pos h0]

end

/-! ### The outcomes of `RSGEN` and `RSENC` -/

section
variable {s : State} {v : BitVec 16} (hf : s.fault = false)
include hf

/-- R93, R94: the checks of a command that takes a count. -/
theorem runCommand_withCount_faults (w : Word) (k : Nat → Effect) :
    (s.tv = false → runCommand w s (needTables s (withCount s v k)) = .next (faulted s 7 w)) ∧
    (s.tv = true → v.toInt ≤ 0 → runCommand w s (needTables s (withCount s v k)) = .next (faulted s 4 w)) ∧
    (s.tv = true → (s.sizes.rmax : Int) < v.toInt →
      runCommand w s (needTables s (withCount s v k)) = .next (faulted s 9 w)) := by
  refine ⟨fun htv => runCommand_needTables_of_not_tv hf htv w _, fun htv h => ?_, fun htv h => ?_⟩
  · rw [needTables, if_pos htv, withCount_of_nonpos h]
    exact runCommand_raise hf w .fieldArithmeticError
  · rw [needTables, if_pos htv, withCount_of_gt h]
    exact runCommand_raise hf w .bufferBounds

variable (ht : s.TablesBuilt) (h0 : 0 < v.toInt) (h1 : v.toInt ≤ s.sizes.rmax)
include ht h0 h1

/-- R93: with a count in range the command completes. -/
theorem exec_rsgen_completes :
    exec (.rsgen v) s = .next { s with gen := Memory.fill (refGenerator v.toNat), gdeg := v, cseq := s.cseq + 1 } := by
  rw [exec, execRsgen, needTables, if_pos ht.1, withCount_of_inRange h0 h1, ht.hold.generator_eq, Effect.withValue,
    runCommand_commit hf, State.setGenerator, BitVec.ofNat_toNat, BitVec.setWidth_eq]
  rfl

/-- R94: with a count in range the command completes, and EMEM holds the remainder of the data. -/
theorem exec_rsenc_completes {d : List Byte} (hd : HoldsData s d) :
    ∃ e, IsRemainder d e v.toNat ∧
      exec (.rsenc v) s = .next { s with gen := Memory.fill (refGenerator v.toNat), gdeg := v,
                                         emem := Memory.fill e, elen := v, cseq := s.cseq + 1 } := by
  obtain ⟨e, hrem, he⟩ := ht.hold.exists_remainder (one_le_toNat_of_pos h0) d
  refine ⟨e, he, ?_⟩
  rw [exec, execRsenc, needTables, if_pos ht.1, withCount_of_inRange h0 h1, ht.hold.generator_eq,
    slice_zero_of_holdsData hd, Effect.withValue, Effect.withValue, hrem, Effect.withValue, runCommand_commit hf,
    State.setGenerator, State.setEc, BitVec.ofNat_toNat, BitVec.setWidth_eq]
  rfl

end

/-- Settles O44: the checks in their order, then the generator of the tables. -/
theorem rsgenBuildsTheGenerator : Obligations.RsgenBuildsTheGenerator := by
  refine fun v => ⟨onlyWord_encode (.rsgen v), fun s hf => ?_⟩
  obtain ⟨h7, h4, h9⟩ := runCommand_withCount_faults (v := v) hf (encode (.rsgen v)) _
  exact ⟨h7, h4, h9, exec_rsgen_completes hf⟩

/-- Settles O45: the checks in their order, then the remainder of the data. -/
theorem rsencEncodesTheDataBuffer : Obligations.RsencEncodesTheDataBuffer := by
  refine fun v => ⟨onlyWord_encode (.rsenc v), fun s hf => ?_⟩
  obtain ⟨h7, h4, h9⟩ := runCommand_withCount_faults (v := v) hf (encode (.rsenc v)) _
  exact ⟨h7, h4, h9, fun d ht hd h0 h1 => exec_rsenc_completes hf ht h0 h1 hd⟩

/-! ### `ILV` -/

/-- R103: the slice of each block lies within the bytes all slices cover. -/
theorem Layout.off_add_len_le_covered (l : Layout) {b : Nat} (hb : b < l.g1b + l.g2b) :
    l.off b + l.len b ≤ l.covered := by
  rw [Layout.off, Layout.len, Layout.covered]
  by_cases h1 : b < l.g1b
  · rw [if_pos h1.le, if_pos h1, ← Nat.succ_mul]
    exact (Nat.mul_le_mul_right _ h1).trans (Nat.le_add_right _ _)
  · obtain ⟨k, rfl⟩ := Nat.exists_eq_add_of_le (not_lt.mp h1)
    have hk : (k + 1) * l.g2d ≤ l.g2b * l.g2d := Nat.mul_le_mul_right _ (by omega)
    have hoff : (if l.g1b + k ≤ l.g1b then (l.g1b + k) * l.g1d else l.g1b * l.g1d + (l.g1b + k - l.g1b) * l.g2d) =
        l.g1b * l.g1d + k * l.g2d := by
      rw [Nat.add_sub_cancel_left]
      split
      · next h0 =>
        obtain rfl : k = 0 := by omega
        simp
      · rfl
    rw [if_neg h1, hoff, Nat.add_assoc, ← Nat.succ_mul]
    exact Nat.add_le_add_left hk _

/-- R101: there are as many blocks as the configuration says. -/
theorem State.layout_blocks {s : State} {l : Layout} (h : s.layout = .ok l) : l.g1b + l.g2b = s.cfgN.toNat := by
  obtain ⟨hn, -, rfl⟩ := layoutOf_ok.mp h
  exact Nat.sub_add_cancel (Nat.mod_lt _ (Nat.pos_of_ne_zero hn)).le

/-- R103: where the slices cover no more than the data, each is a part of it. -/
theorem dataSlices_of_holdsData {s : State} {d : List Byte} (h : HoldsData s d) {l : Layout} (hl : l.covered ≤ d.length) :
    dataSlices s.dmem (l.g1b + l.g2b) l =
      some ((List.range (l.g1b + l.g2b)).map fun b => (d.drop (l.off b)).take (l.len b)) := by
  have hlen : ((List.range (l.g1b + l.g2b)).map fun b => (d.drop (l.off b)).take (l.len b)).length = l.g1b + l.g2b := by
    rw [List.length_map, List.length_range]
  have hread := mapM_range_eq_some (f := fun b => Memory.slice s.dmem (l.off b) (l.len b))
    (ys := (List.range (l.g1b + l.g2b)).map fun b => (d.drop (l.off b)).take (l.len b)) fun b hb => by
      rw [hlen] at hb
      rw [List.getElem?_map, List.getElem?_range hb, slice_of_holdsData h ((l.off_add_len_le_covered hb).trans hl)]
      rfl
  rwa [hlen] at hread

/-! ### What a command that succeeds has committed -/

/-- R154: a command that leaves no fault has committed what its rule computes. -/
theorem exec_commits {i : Instr} (hi : i ≠ .beginEncode) {s t : State} (h : exec i s = .next t) (hf : s.fault = false)
    (hft : t.fault = false) : ∃ u, Commits s u i ∧ t = u.complete := by
  rcases exec_next h with ⟨rfl, -⟩ | ⟨-, hf', -⟩ | ⟨-, -, h⟩ | ⟨-, -, c, -, rfl⟩
  · exact absurd rfl hi
  · exact absurd (hf.symm.trans hf') (by decide)
  · exact h
  · cases hft

theorem count_of_exec_rsenc {v : BitVec 16} {s t : State} (h : exec (.rsenc v) s = .next t) (hf : s.fault = false)
    (hft : t.fault = false) : 0 < v.toInt ∧ v.toInt ≤ s.sizes.rmax := by
  obtain ⟨u, ⟨-, h0, h1, -⟩, -⟩ := exec_commits (by simp) h hf hft
  exact ⟨h0, h1⟩

/-! ### Two states with the same data -/

section
variable {s₁ s₂ t₁ t₂ : State} {d : List Byte} (ht₁ : s₁.TablesBuilt) (ht₂ : s₂.TablesBuilt) (hd₁ : HoldsData s₁ d)
  (hd₂ : HoldsData s₂ d)
include ht₁ ht₂ hd₁ hd₂

/-- R96: what `ILV` computes depends on the data and the layout alone. -/
theorem encodeBlocks_eq_of_holdsData {l : Layout} (hl : l.covered ≤ d.length) :
    encodeBlocks s₁.exp s₁.log s₁.dmem (l.g1b + l.g2b) l = encodeBlocks s₂.exp s₂.log s₂.dmem (l.g1b + l.g2b) l := by
  rw [encodeBlocks, encodeBlocks, ht₁.hold.generator_eq, ht₂.hold.generator_eq, dataSlices_of_holdsData hd₁ hl,
    dataSlices_of_holdsData hd₂ hl, ht₁.hold.remainder_eq_builtTables, ht₂.hold.remainder_eq_builtTables]

variable (hf₁ : s₁.fault = false) (hf₂ : s₂.fault = false)
include hf₁ hf₂

/-- R96 for `RSENC`: both completions write the one remainder, and only the size `RMAX` could refuse one of the counts. -/
theorem rsenc_deterministic {v : BitVec 16} (h₁ : exec (.rsenc v) s₁ = .next t₁) (h₂ : exec (.rsenc v) s₂ = .next t₂)
    (hft : t₁.fault = false) :
    (s₁.sizes = s₂.sizes → t₂.fault = false) ∧
      (t₂.fault = false → ∀ a, t₁.readByte .emem a = t₂.readByte .emem a) := by
  obtain ⟨h0, hmax₁⟩ := count_of_exec_rsenc h₁ hf₁ hft
  obtain ⟨e₁, he₁, hex₁⟩ := exec_rsenc_completes hf₁ ht₁ h0 hmax₁ hd₁
  cases hex₁.symm.trans h₁
  refine ⟨fun hsizes => ?_, fun hft₂ a => ?_⟩
  · obtain ⟨e₂, -, hex₂⟩ := exec_rsenc_completes hf₂ ht₂ h0 (hsizes ▸ hmax₁) hd₂
    cases hex₂.symm.trans h₂
    exact hf₂
  · obtain ⟨-, hmax₂⟩ := count_of_exec_rsenc h₂ hf₂ hft₂
    obtain ⟨e₂, he₂, hex₂⟩ := exec_rsenc_completes hf₂ ht₂ h0 hmax₂ hd₂
    cases hex₂.symm.trans h₂
    cases he₁.unique (one_le_toNat_of_pos h0) he₂
    rfl

/-- R96 for `ILV`: both completions write the EC bytes of one encoding, and only the sizes could refuse one of them. -/
theorem ilv_deterministic (hT : s₁.cfgT = s₂.cfgT) (hD : s₁.cfgD = s₂.cfgD) (hN : s₁.cfgN = s₂.cfgN)
    (h₁ : exec .ilv s₁ = .next t₁) (h₂ : exec .ilv s₂ = .next t₂) (hft : t₁.fault = false) :
    (s₁.sizes = s₂.sizes → t₂.fault = false) ∧
      (t₂.fault = false → ∀ a, t₁.readByte .emem a = t₂.readByte .emem a) := by
  obtain ⟨u₁, hu₁, rfl⟩ := exec_commits (by simp) h₁ hf₁ hft
  obtain ⟨-, l, r, hl, homax, hemax, hrmax, hlen, hcov, henc, hout, rfl⟩ := ilvEffect_commit.mp hu₁
  have hlayout : s₂.layout = .ok l := by rw [← hl, State.layout, State.layout, hT, hD, hN]
  have hcovered : l.covered ≤ d.length := by
    rw [hcov, ← hlen]
    exact hd₁.1.ge
  have henc₂ : encodeBlocks s₂.exp s₂.log s₂.dmem s₂.cfgN.toNat l = some r := by
    rw [← henc, ← State.layout_blocks hl, ← State.layout_blocks hlayout]
    exact (encodeBlocks_eq_of_holdsData ht₁ ht₂ hd₁ hd₂ hcovered).symm
  refine ⟨fun hsizes => ?_, fun hft₂ a => ?_⟩
  · have hu₂ := ilvEffect_commit.mpr ⟨ht₂.1, l, r, hlayout, by rwa [← hT, ← hsizes], by rwa [← hN, ← hsizes],
      by rwa [← hsizes], by rw [← hd₂.1, hd₁.1, hlen, hD], by rw [hcov, hD], henc₂, by rw [hout, hT], rfl⟩
    rw [exec, execIlv, hu₂, runCommand_commit hf₂] at h₂
    cases h₂
    exact hf₂
  · obtain ⟨u₂, hu₂, rfl⟩ := exec_commits (by simp) h₂ hf₂ hft₂
    obtain ⟨-, l', r', hl', -, -, -, -, -, henc', -, rfl⟩ := ilvEffect_commit.mp hu₂
    cases hlayout.symm.trans hl'
    cases henc₂.symm.trans henc'
    rfl

end

/-- Settles O46: for each of the two commands. -/
theorem encodingIsDeterministic : Obligations.EncodingIsDeterministic := fun _ _ _ _ _ hf₁ hf₂ ht₁ ht₂ hd₁ hd₂ =>
  ⟨fun _ => rsenc_deterministic ht₁ ht₂ hd₁ hd₂ hf₁ hf₂, ilv_deterministic ht₁ ht₂ hd₁ hd₂ hf₁ hf₂⟩

end Sys2Proof.Machine
end

section
/-! The layout of a configuration and the two passes of the interleaver (42_interleaver_sequencer.md R101 to R105): how many
codewords a pass has, and where it puts each byte. -/

open Sys2Proof.Claims

namespace Sys2Proof.Machine

/-! ### The layout of a configuration -/

/-- The layout of an accepted configuration (R101), in the terms of the claims; `layoutOf_ok_iff` ties it to `layoutOf`. -/
def configuredLayout (t d n : Nat) : Layout :=
  { g1b := n - t % n, g2b := t % n, g1t := t / n, g2t := t / n + 1, g1d := d / n, g2d := d / n + 1,
    ecb := t / n - d / n }

theorem layoutOf_ok_iff {t d n : Nat} {l : Layout} :
    layoutOf t d n = .ok l ↔ ¬ badLayout t d n ∧ l = configuredLayout t d n := by
  rw [layoutOf_ok, badLayout, not_or, not_le, and_assoc]
  rfl

theorem State.layout_eq_error {s : State} (h : badLayout s.cfgT.toNat s.cfgD.toNat s.cfgN.toNat) :
    s.layout = .error .configError :=
  layoutOf_error.mpr ⟨h, rfl⟩

theorem State.layout_eq_ok {s : State} (h : ¬ badLayout s.cfgT.toNat s.cfgD.toNat s.cfgN.toNat) :
    s.layout = .ok (configuredLayout s.cfgT.toNat s.cfgD.toNat s.cfgN.toNat) :=
  layoutOf_ok_iff.mpr ⟨h, rfl⟩

/-- R103's closed form: every block adds group 1's size, and those of group 2 one byte more. -/
theorem blockOff_eq (t d n b : Nat) : blockOff t d n b = b * (d / n) + (b - (n - t % n)) := by
  rw [blockOff]
  split
  · next hb => rw [Nat.sub_eq_zero_of_le hb, Nat.add_zero]
  · next hb =>
    obtain ⟨k, rfl⟩ := Nat.exists_eq_add_of_le (not_le.mp hb).le
    rw [Nat.add_sub_cancel_left, Nat.mul_succ, Nat.add_mul, Nat.add_assoc]

/-- R103: the slices follow one another. -/
theorem blockOff_succ (t d n b : Nat) : blockOff t d n (b + 1) = blockOff t d n b + blockLen t d n b := by
  rw [blockOff_eq, blockOff_eq, blockLen, Nat.succ_mul]
  split <;> omega

section
variable {t d n : Nat} (h : ¬ badLayout t d n)
include h

theorem mod_le_of_not_badLayout : t % n ≤ n :=
  (Nat.mod_lt t (Nat.pos_of_ne_zero (not_or.mp h).1)).le

theorem ecb_pos_of_not_badLayout : 1 ≤ t / n - d / n := Nat.sub_pos_of_lt (not_le.mp (not_or.mp h).2)

/-- R103: the slices are the columns all blocks have, and one more byte of each block of group 2. -/
theorem covered_eq : covered t d n = d / n * n + t % n := by
  rw [covered, Nat.mul_succ, ← Nat.add_assoc, ← Nat.add_mul, Nat.sub_add_cancel (mod_le_of_not_badLayout h), mul_comm]

/-- R111: the symbols of all blocks are the data and the EC bytes. -/
theorem total_eq (hcov : covered t d n = d) : t = d + n * (t / n - d / n) := by
  have hle : n * (d / n) ≤ n * (t / n) := Nat.mul_le_mul_left _ (not_le.mp (not_or.mp h).2).le
  have hd : d = n * (d / n) + t % n := by rw [mul_comm, ← covered_eq h, hcov]
  have ht := Nat.div_add_mod t n
  rw [Nat.mul_sub]
  omega

theorem blockOff_last : blockOff t d n n = covered t d n := by
  rw [blockOff_eq, covered_eq h, Nat.sub_sub_self (mod_le_of_not_badLayout h), mul_comm]

end

/-! ### Rows of one length -/

section
variable {α : Type} {rows : List (List α)} {n : Nat} (h : ∀ row ∈ rows, row.length = n)
include h

theorem length_flatten_of_length : rows.flatten.length = rows.length * n := by
  rw [List.length_flatten, List.sum_eq_card_nsmul _ n (by simpa using h), List.length_map, smul_eq_mul]

theorem getElem?_flatten_of_length (x : Nat) {b : Nat} (hb : b < n) :
    rows.flatten[x * n + b]? = rows[x]?.bind fun row => row[b]? := by
  induction rows generalizing x with
  | nil => simp
  | cons row rows ih =>
    obtain ⟨hrow, hrows⟩ := List.forall_mem_cons.mp h
    rw [List.flatten_cons]
    cases x with
    | zero => rw [Nat.zero_mul, Nat.zero_add, List.getElem?_append_left (by omega)]; rfl
    | succ x =>
      have hidx : (x + 1) * n + b - row.length = x * n + b := by rw [hrow, Nat.succ_mul]; omega
      rw [List.getElem?_append_right (by rw [hrow, Nat.succ_mul]; omega), hidx, ih hrows]
      rfl

end

/-! ### Columns -/

theorem column_append (xs ys : List (List Byte)) (x : Nat) : column (xs ++ ys) x = column xs x ++ column ys x :=
  List.filterMap_append

/-- A block too short for a column adds nothing to it. -/
theorem column_eq_nil {blocks : List (List Byte)} {x : Nat} (h : ∀ block ∈ blocks, block.length ≤ x) :
    column blocks x = [] :=
  List.filterMap_eq_nil_iff.mpr fun block hb => List.getElem?_eq_none (h block hb)

/-- A column that every block reaches lists one byte of each. -/
theorem map_some_column {blocks : List (List Byte)} {x : Nat} (h : ∀ block ∈ blocks, x < block.length) :
    (column blocks x).map some = blocks.map fun block => block[x]? := by
  induction blocks with
  | nil => rfl
  | cons block blocks ih =>
    obtain ⟨hblock, hblocks⟩ := List.forall_mem_cons.mp h
    have hcons : column (block :: blocks) x = block[x] :: column blocks x :=
      List.filterMap_cons_some (List.getElem?_eq_getElem hblock)
    rw [hcons, List.map_cons, List.map_cons, ih hblocks, List.getElem?_eq_getElem hblock]

section
variable {blocks : List (List Byte)} {x : Nat} (h : ∀ block ∈ blocks, x < block.length)
include h

theorem length_column : (column blocks x).length = blocks.length := by
  simpa using congrArg List.length (map_some_column h)

theorem getElem?_column (b : Nat) : (column blocks x)[b]? = blocks[b]?.bind fun block => block[x]? := by
  have hb := congrArg (fun entries : List (Option Byte) => entries[b]?.bind id) (map_some_column h)
  simpa [Option.bind_map, Function.comp_def] using hb

end

/-! A pass over columns that every block reaches. -/

section
variable {blocks : List (List Byte)} {m : Nat} (h : ∀ block ∈ blocks, m ≤ block.length)
include h

theorem length_of_mem_columns : ∀ row ∈ (List.range m).map (column blocks), row.length = blocks.length :=
  List.forall_mem_map.mpr fun _ hx => length_column fun block hb => (List.mem_range.mp hx).trans_le (h block hb)

theorem length_columns : ((List.range m).flatMap (column blocks)).length = m * blocks.length := by
  rw [List.flatMap_def, length_flatten_of_length (length_of_mem_columns h), List.length_map, List.length_range]

/-- Where such a pass puts byte `x` of block `b`. -/
theorem getElem?_columns {x b : Nat} (hx : x < m) (hb : b < blocks.length) :
    ((List.range m).flatMap (column blocks))[x * blocks.length + b]? = blocks[b]?.bind fun block => block[x]? := by
  rw [List.flatMap_def, getElem?_flatten_of_length (length_of_mem_columns h) x hb, List.getElem?_map,
    List.getElem?_range hx]
  exact getElem?_column (fun block hblock => hx.trans_le (h block hblock)) b

end

/-! ### The two passes -/

section
variable {short long : List (List Byte)} {k : Nat} (hshort : ∀ block ∈ short, block.length = k)
  (hlong : ∀ block ∈ long, block.length = k + 1)
include hshort hlong

theorem le_length_of_mem_groups : ∀ block ∈ short ++ long, k ≤ block.length := by
  intro block hblock
  rcases List.mem_append.mp hblock with hs | hl
  · rw [hshort block hs]
  · rw [hlong block hl]
    exact Nat.le_succ k

/-- R105: after the columns that every slice has, the data pass has at most one column more, of the slices of group 2. -/
theorem dataPass_eq :
    (List.range (if 0 < long.length then k + 1 else k)).flatMap (column (short ++ long)) =
      (List.range k).flatMap (column (short ++ long)) ++ column long k := by
  cases long with
  | nil => simp [column]
  | cons block long =>
    have hlast : column (short ++ block :: long) k = column (block :: long) k := by
      rw [column_append, column_eq_nil fun block hb => (hshort block hb).le, List.nil_append]
    rw [List.length_cons, if_pos (Nat.add_one_pos _), List.range_succ, List.flatMap_append, List.flatMap_singleton, hlast]

theorem length_dataPass :
    ((List.range (if 0 < long.length then k + 1 else k)).flatMap (column (short ++ long))).length =
      k * (short ++ long).length + long.length := by
  rw [dataPass_eq hshort hlong, List.length_append,
    length_columns (le_length_of_mem_groups hshort hlong),
    length_column fun block hb => (hlong block hb).ge]

/-- R110 (c): where the data pass puts byte `x` of block `b`. -/
theorem getElem?_dataPass {block : List Byte} {b x : Nat} (hb : (short ++ long)[b]? = some block)
    (hx : x < block.length) :
    ((List.range (if 0 < long.length then k + 1 else k)).flatMap (column (short ++ long)))[
      if x < k then x * (short ++ long).length + b else k * (short ++ long).length + (b - short.length)]? = block[x]? := by
  have hreach := le_length_of_mem_groups hshort hlong
  have hlen := length_columns hreach
  have hbn := (List.getElem?_eq_some_iff.mp hb).1
  rw [dataPass_eq hshort hlong]
  split
  · next hxk =>
    have hlt : x * (short ++ long).length + b < k * (short ++ long).length := by
      have := Nat.mul_le_mul_right (short ++ long).length (Nat.succ_le_of_lt hxk)
      rw [Nat.succ_mul] at this
      omega
    rw [List.getElem?_append_left (hlen ▸ hlt), getElem?_columns hreach hxk hbn, hb]
    rfl
  · next hxk =>
    have hsb : short.length ≤ b := by
      by_contra hlt
      rw [List.getElem?_append_left (not_le.mp hlt)] at hb
      exact hxk (hshort block (List.mem_of_getElem? hb) ▸ hx)
    rw [List.getElem?_append_right hsb] at hb
    have hxk' : x = k := by
      have := hlong block (List.mem_of_getElem? hb)
      omega
    rw [List.getElem?_append_right (by rw [hlen]; exact Nat.le_add_right _ _), hlen, Nat.add_sub_cancel_left,
      getElem?_column fun block hb => (hlong block hb).ge, hb, hxk']
    rfl

end

/-! ### What `ILV` computes -/

/-- The blocks behind what `ILV` computes for a configuration: the slices of group 1, those of group 2, and the EC bytes of
each block. `encodeBlocks_blocks` ties it to `encodeBlocks`. -/
structure EncodedBlocks (dmem : Memory) (t d n : Nat) (r : Interleaved) (short long ecs : List (List Byte)) : Prop where
  slices : dataSlices dmem n (configuredLayout t d n) = some (short ++ long)
  shortCount : short.length = n - t % n
  longCount : long.length = t % n
  shortLength : ∀ block ∈ short, block.length = d / n
  longLength : ∀ block ∈ long, block.length = d / n + 1
  ecCount : ecs.length = n
  ecLength : ∀ block ∈ ecs, block.length = t / n - d / n
  ec : r.ec = ecs.flatten
  out : r.out = interleave (short ++ long) ecs (if 0 < long.length then d / n + 1 else d / n) (t / n - d / n)

theorem slice_length_of_dataSlices {dmem : Memory} {t d n : Nat} {slices : List (List Byte)}
    (h : dataSlices dmem n (configuredLayout t d n) = some slices) {b : Nat} {block : List Byte}
    (hb : slices[b]? = some block) : block.length = blockLen t d n b := by
  obtain ⟨hcount, hslice⟩ := dataSlices_some h
  have hbn : b < n := hcount ▸ (List.getElem?_eq_some_iff.mp hb).1
  exact (Memory.slice_some ((hslice b hbn).symm.trans hb)).1

theorem encodeBlocks_blocks {exp log dmem : Memory} {t d n : Nat} {r : Interleaved} (hl : ¬ badLayout t d n)
    (h : encodeBlocks exp log dmem n (configuredLayout t d n) = some r) :
    ∃ short long ecs, EncodedBlocks dmem t d n r short long ecs := by
  obtain ⟨hgen, slices, ecs, hslices, hecs, hec, hout⟩ := encodeBlocks_some h
  have hcount := (dataSlices_some hslices).1
  have hlong : (slices.drop (n - t % n)).length = t % n := by
    rw [List.length_drop, hcount, Nat.sub_sub_self (mod_le_of_not_badLayout hl)]
  obtain ⟨hecCount, hecGet⟩ := mapM_some hecs
  refine ⟨slices.take (n - t % n), slices.drop (n - t % n), ecs, ?_, ?_, hlong, fun block hblock => ?_,
    fun block hblock => ?_, hecCount.trans hcount, fun block hblock => ?_, hec, ?_⟩
  · rw [List.take_append_drop]
    exact hslices
  · rw [List.length_take, hcount, Nat.min_eq_left (Nat.sub_le _ _)]
  · obtain ⟨b, hb⟩ := List.mem_iff_getElem?.mp hblock
    have hlt : b < n - t % n := (List.getElem?_eq_some_iff.mp hb).1.trans_le (List.length_take_le _ _)
    rw [List.getElem?_take_of_lt hlt] at hb
    rw [slice_length_of_dataSlices hslices hb, blockLen, if_pos hlt]
  · obtain ⟨b, hb⟩ := List.mem_iff_getElem?.mp hblock
    rw [List.getElem?_drop] at hb
    rw [slice_length_of_dataSlices hslices hb, blockLen, if_neg (by omega)]
  · obtain ⟨b, hb⟩ := List.mem_iff_getElem?.mp hblock
    rw [hecGet, Option.bind_eq_some_iff] at hb
    obtain ⟨slice, -, hrem⟩ := hb
    exact remainder_length (generator_length hgen) (ecb_pos_of_not_badLayout hl) hrem
  · rw [List.take_append_drop, hlong]
    exact hout

section
variable {dmem : Memory} {t d n : Nat} {r : Interleaved} {short long ecs : List (List Byte)}
  (h : EncodedBlocks dmem t d n r short long ecs) (hl : ¬ badLayout t d n)
include h hl

theorem EncodedBlocks.count : (short ++ long).length = n := by
  rw [List.length_append, h.shortCount, h.longCount, Nat.sub_add_cancel (mod_le_of_not_badLayout hl)]

/-- R103, R105: the data pass has as many codewords as the slices have bytes. -/
theorem EncodedBlocks.length_dataPass :
    ((List.range (if 0 < long.length then d / n + 1 else d / n)).flatMap (column (short ++ long))).length =
      covered t d n := by
  rw [Machine.length_dataPass h.shortLength h.longLength, h.count hl, h.longCount, covered_eq hl]

/-- R106: the number of codewords. -/
theorem EncodedBlocks.length_out : r.out.length = covered t d n + n * (t / n - d / n) := by
  rw [h.out, interleave, List.length_append, h.length_dataPass hl,
    length_columns fun block hb => (h.ecLength block hb).ge, h.ecCount, mul_comm]

/-- R110 (c): the data pass, undone by position. -/
theorem EncodedBlocks.data {b x : Nat} (hb : b < n) (hx : x < blockLen t d n b) :
    ∃ v, Memory.read dmem (blockOff t d n b + x) = some v ∧
      r.out[if x < d / n then x * n + b else d / n * n + (b - (n - t % n))]? = some v := by
  obtain ⟨block, hblock⟩ : ∃ block, (short ++ long)[b]? = some block :=
    ⟨_, List.getElem?_eq_getElem ((h.count hl).symm ▸ hb)⟩
  obtain ⟨hlen, hread⟩ := Memory.slice_some (((dataSlices_some h.slices).2 b hb).symm.trans hblock)
  have hxb : x < block.length := hx.trans_eq hlen.symm
  have hpass := getElem?_dataPass h.shortLength h.longLength hblock hxb
  rw [h.count hl, h.shortCount, List.getElem?_eq_getElem hxb] at hpass
  refine ⟨block[x], by rw [← List.getElem?_eq_getElem hxb]; exact (hread x hx).symm, ?_⟩
  rw [h.out, interleave, List.getElem?_append_left (List.getElem?_eq_some_iff.mp hpass).1, hpass]

/-- R110 (d): the EC pass, undone by position. -/
theorem EncodedBlocks.ecByte {b x : Nat} (hb : b < n) (hx : x < t / n - d / n) :
    ∃ v, r.ec[b * (t / n - d / n) + x]? = some v ∧ r.out[covered t d n + x * n + b]? = some v := by
  obtain ⟨block, hblock⟩ : ∃ block, ecs[b]? = some block := ⟨_, List.getElem?_eq_getElem (h.ecCount.symm ▸ hb)⟩
  have hxb : x < block.length := hx.trans_eq (h.ecLength block (List.mem_of_getElem? hblock)).symm
  have hpass := getElem?_columns (fun block hb => (h.ecLength block hb).ge) hx (h.ecCount.symm ▸ hb)
  rw [h.ecCount, hblock, Option.bind_some, List.getElem?_eq_getElem hxb] at hpass
  refine ⟨block[x], ?_, ?_⟩
  · rw [h.ec, getElem?_flatten_of_length h.ecLength b hx, hblock, Option.bind_some, List.getElem?_eq_getElem hxb]
  · rw [h.out, interleave, Nat.add_assoc, ← h.length_dataPass hl, List.getElem?_append_right (Nat.le_add_right _ _),
      Nat.add_sub_cancel_left, hpass]

end

end Sys2Proof.Machine
end

section
/-! The commands of the interleaver and sequencer (42_interleaver_sequencer.md R106 to R111). -/

open Sys2Proof.Claims

namespace Sys2Proof.Machine

/-! ### `ILAYOUT` and `ONEXT` -/

/-- Settles O47: the configuration is refused, or every layout value fits its register. -/
theorem ilayoutComputesTheLayout : Obligations.IlayoutComputesTheLayout := by
  refine ⟨onlyWord_encode .ilayout, ?_⟩
  rintro s _ _ _ hf rfl rfl rfl
  refine ⟨fun hbad => ?_, fun hok => ?_⟩
  · rw [exec, execIlayout, State.layout_eq_error hbad]
    exact runCommand_raise hf _ .configError
  · have hl := State.layout_eq_ok hok
    obtain ⟨hg1b, hg2b, hg1t, hg2t, hg1d, hg2d, hecb⟩ := State.holdsLayout_setLayout hl
    refine ⟨(s.setLayout _).complete, ?_, rfl, hg2b, hg1b, hg1t, hg2t, hg1d, hg2d, hecb⟩
    rw [exec, execIlayout, hl]
    exact runCommand_commit hf _ _

/-- Settles O49: `OPTR` has reached `OLEN`, or its codeword is handed out. -/
theorem onextHandsOutTheNextCodeword : Obligations.OnextHandsOutTheNextCodeword := by
  refine fun rd => ⟨onlyWord_encode (.onext rd), fun s hf => ⟨fun hend => ?_, fun v hlt hv => ?_⟩⟩
  · rw [exec, execOnext, if_pos (BitVec.le_def.mpr hend)]
    exact runCommand_raise hf _ .bufferBounds
  · rw [exec, execOnext, if_neg (by rw [BitVec.le_def]; omega), hv]
    exact runCommand_commit hf _ _

/-! ### After a successful `ILV` -/

/-- R106: the length check of `ILV` never fires. -/
theorem length_out_of_encodeBlocks {exp log dmem : Memory} {t d n : Nat} {r : Interleaved} (hl : ¬ badLayout t d n)
    (hcov : covered t d n = d) (h : encodeBlocks exp log dmem n (configuredLayout t d n) = some r) :
    r.out.length = t := by
  obtain ⟨short, long, ecs, hblocks⟩ := encodeBlocks_blocks hl h
  rw [hblocks.length_out hl, hcov, ← total_eq hl hcov]

/-- What an `ILV` without a fault has found and committed (R108), in the terms of the claims. -/
theorem exec_ilv_commits {s u : State} (h : exec .ilv s = .next u) (hf : s.fault = false) (hfu : u.fault = false)
    {t d n : Nat} (ht : t = s.cfgT.toNat) (hd : d = s.cfgD.toNat) (hn : n = s.cfgN.toNat) :
    ¬ badLayout t d n ∧ covered t d n = d ∧ s.dlen.toNat = d ∧
    ∃ r, encodeBlocks s.exp s.log s.dmem n (configuredLayout t d n) = some r ∧
      u = ((((s.setLayout (configuredLayout t d n)).setGenerator r.gen (t / n - d / n)).setEc r.ec
            (n * (t / n - d / n))).setOutput r.out t).complete := by
  subst ht hd hn
  obtain ⟨v, hv, rfl⟩ := exec_commits (by simp) h hf hfu
  obtain ⟨-, l, r, hl, -, -, -, hlen, hcov, henc, -, rfl⟩ := ilvEffect_commit.mp hv
  obtain ⟨hok, rfl⟩ := layoutOf_ok_iff.mp hl
  exact ⟨hok, hcov, hlen, r, henc, rfl⟩

theorem toNat_ofNat_of_le_total {x : Nat} {t : BitVec 16} (h : x ≤ t.toNat) : (BitVec.ofNat 16 x).toNat = x :=
  Nat.mod_eq_of_lt (h.trans_lt t.isLt)

/-- Settles O51: the layout adds up to `T`, so that `ELEN` holds `N * ECB` unreduced and the sequence has `T` codewords. -/
theorem ilvSymbolInvariant : Obligations.IlvSymbolInvariant := by
  refine ⟨fun s u hf h hfu => ?_, fun s l r hl hcov henc => ?_⟩
  · obtain ⟨hok, hcov, -, r, -, hu⟩ := exec_ilv_commits h hf hfu rfl rfl rfl
    obtain ⟨hg1b, hg2b, -, -, hg1d, hg2d, hecb⟩ :
        u.HoldsLayout (configuredLayout s.cfgT.toNat s.cfgD.toNat s.cfgN.toNat) := by
      rw [hu]
      exact State.holdsLayout_setLayout (State.layout_eq_ok hok)
    have helen : u.elen = BitVec.ofNat 16 (s.cfgN.toNat * u.ecb.toNat) := by
      rw [hecb, hu]
      rfl
    have htotal : s.cfgT.toNat = s.cfgD.toNat + s.cfgN.toNat * u.ecb.toNat := hecb ▸ total_eq hok hcov
    refine ⟨htotal, helen ▸ toNat_ofNat_of_le_total (htotal ▸ Nat.le_add_left _ _), ?_⟩
    rw [hg1b, hg2b, hg1d, hg2d]
    exact hcov
  · obtain ⟨hok, rfl⟩ := layoutOf_ok_iff.mp hl
    exact length_out_of_encodeBlocks hok hcov henc

/-- Settles O50: the slices follow one another by R103's closed form, and both passes are undone by position. -/
theorem ilvRoundTrip : Obligations.IlvRoundTrip := by
  rintro s u t d n ecb - hf h hfu ht hd hn rfl
  obtain ⟨hok, hcov, hlen, r, henc, rfl⟩ := exec_ilv_commits h hf hfu ht hd hn
  obtain ⟨short, long, ecs, hblocks⟩ := encodeBlocks_blocks hok henc
  refine ⟨⟨by simp [blockOff_eq], fun b _ => blockOff_succ t d n b, (blockOff_last hok).trans hcov, hlen, fun _ => rfl⟩,
    toNat_ofNat_of_le_total ht.le, fun b x hb hx => ?_, fun b x hb hx => ?_⟩
  · obtain ⟨v, hdata, hout⟩ := hblocks.data hok hb hx
    exact ⟨Option.isSome_of_eq_some hdata, (Memory.read_fill _ _).trans (hout.trans hdata.symm)⟩
  · obtain ⟨v, hec, hout⟩ := hblocks.ecByte hok hb hx
    rw [hcov] at hout
    have hemem := (Memory.read_fill r.ec _).trans hec
    exact ⟨Option.isSome_of_eq_some hemem, (Memory.read_fill r.out _).trans (hout.trans hemem.symm)⟩

/-! ### The outcomes of `ILV` -/

/-- R104: the EC bytes of every block, each block's from the one generator. -/
theorem TablesHold.mapM_remainder {exp log : Memory} (h : TablesHold exp log) {r : Nat} (hr : 1 ≤ r)
    (blocks : List (List Byte)) :
    ∃ ec : List Byte → List Byte, (∀ block, IsRemainder block (ec block) r) ∧
      (blocks.mapM fun block => remainder exp log block (refGenerator r)) = some (blocks.map ec) := by
  choose ec hrem hec using h.exists_remainder hr
  refine ⟨ec, hec, ?_⟩
  simp only [hrem]
  exact List.mapM_pure

/-- R103: the data of each block, block by block. -/
def blockSlices (data : List Byte) (t d n : Nat) : List (List Byte) :=
  (List.range n).map fun b => (data.drop (blockOff t d n b)).take (blockLen t d n b)

theorem length_blockSlices (data : List Byte) (t d n : Nat) : (blockSlices data t d n).length = n := by
  rw [blockSlices, List.length_map, List.length_range]

theorem getElem?_blockSlices (data : List Byte) (t d : Nat) {n b : Nat} (hb : b < n) :
    (blockSlices data t d n)[b]? = some ((data.drop (blockOff t d n b)).take (blockLen t d n b)) := by
  rw [blockSlices, List.getElem?_map, List.getElem?_range hb]
  rfl

/-- R104, R105: what `ILV` computes from the data, with the tables. -/
theorem encodeBlocks_of_holdsData {s : State} {data : List Byte} (ht : s.TablesBuilt) (hd : HoldsData s data)
    {t d n : Nat} (hl : ¬ badLayout t d n) (hcov : covered t d n ≤ data.length) :
    ∃ slices ecs : List (List Byte), slices.length = n ∧ ecs.length = n ∧
      (∀ b, b < n → ∃ e, slices[b]? = some ((data.drop (blockOff t d n b)).take (blockLen t d n b)) ∧
        ecs[b]? = some e ∧
        IsRemainder ((data.drop (blockOff t d n b)).take (blockLen t d n b)) e (t / n - d / n)) ∧
      encodeBlocks s.exp s.log s.dmem n (configuredLayout t d n) =
        some { gen := refGenerator (t / n - d / n), ec := ecs.flatten,
               out := interleave slices ecs (configuredLayout t d n).maxData (t / n - d / n) } := by
  obtain ⟨ec, hec, hmap⟩ := ht.hold.mapM_remainder (r := (configuredLayout t d n).ecb) (ecb_pos_of_not_badLayout hl)
    (blockSlices data t d n)
  have hcount : (configuredLayout t d n).g1b + (configuredLayout t d n).g2b = n :=
    Nat.sub_add_cancel (mod_le_of_not_badLayout hl)
  have hslices : dataSlices s.dmem n (configuredLayout t d n) = some (blockSlices data t d n) := by
    have h := dataSlices_of_holdsData hd (l := configuredLayout t d n) hcov
    rwa [hcount] at h
  refine ⟨blockSlices data t d n, (blockSlices data t d n).map ec, length_blockSlices data t d n,
    (List.length_map ec).trans (length_blockSlices data t d n),
    fun b hb => ⟨_, getElem?_blockSlices data t d hb, ?_, hec _⟩, ?_⟩
  · rw [List.getElem?_map, getElem?_blockSlices data t d hb]
    rfl
  · rw [encodeBlocks, ht.hold.generator_eq, hslices]
    dsimp only
    rw [hmap]
    rfl

section
variable {s : State} (htv : s.tv = true)
include htv

theorem ilvEffect_of_badLayout (hbad : badLayout s.cfgT.toNat s.cfgD.toNat s.cfgN.toNat) :
    ilvEffect s = .raise .configError := by
  rw [ilvEffect, needTables, if_pos htv, State.layout_eq_error hbad]

variable {l : Layout} (hl : s.layout = .ok l)
include hl

theorem ilvEffect_of_tooLarge
    (h : s.sizes.omax < s.cfgT.toNat ∨ s.sizes.emax < s.cfgN.toNat * l.ecb ∨ s.sizes.rmax < l.ecb) :
    ilvEffect s = .raise .bufferBounds := by
  rw [ilvEffect, needTables, if_pos htv, hl]
  exact if_pos h

theorem ilvEffect_of_notCovered (homax : s.cfgT.toNat ≤ s.sizes.omax) (hemax : s.cfgN.toNat * l.ecb ≤ s.sizes.emax)
    (hrmax : l.ecb ≤ s.sizes.rmax) (h : s.dlen.toNat ≠ s.cfgD.toNat ∨ l.covered ≠ s.cfgD.toNat) :
    ilvEffect s = .raise .malformedBitStream := by
  rw [ilvEffect, needTables, if_pos htv, hl]
  dsimp only
  rw [if_neg (by omega), if_pos h]

end

/-- Settles O48: the checks in their order, then the slices of the data and the remainder of each. -/
theorem ilvInterleaves : Obligations.IlvInterleaves := by
  refine ⟨onlyWord_encode .ilv, ?_⟩
  rintro s _ _ _ _ hf rfl rfl rfl rfl
  refine ⟨fun htv => runCommand_needTables_of_not_tv hf htv _ _, fun htv hbad => ?_, fun htv hok hlarge => ?_,
    fun htv hok homax hemax hrmax hdata => ?_, fun data hbuilt hdata hok homax hemax hrmax hlen hcov => ?_⟩
  · rw [exec, execIlv, ilvEffect_of_badLayout htv hbad]
    exact runCommand_raise hf _ .configError
  · rw [exec, execIlv, ilvEffect_of_tooLarge htv (State.layout_eq_ok hok) hlarge]
    exact runCommand_raise hf _ .bufferBounds
  · rw [exec, execIlv, ilvEffect_of_notCovered htv (State.layout_eq_ok hok) homax hemax hrmax hdata]
    exact runCommand_raise hf _ .malformedBitStream
  · obtain ⟨slices, ecs, hslices, hecs, hblocks, henc⟩ :=
      encodeBlocks_of_holdsData hbuilt hdata hok (by rw [hcov, hdata.1, hlen])
    have hcommit := ilvEffect_commit.mpr ⟨hbuilt.1, _, _, State.layout_eq_ok hok, homax, hemax, hrmax, hlen, hcov, henc,
      length_out_of_encodeBlocks hok hcov henc, rfl⟩
    refine ⟨slices, ecs, hslices, hecs, hblocks, ?_⟩
    rw [exec, execIlv, hcommit, runCommand_commit hf, State.setOutput, BitVec.ofNat_toNat, BitVec.setWidth_eq]
    rfl

end Sys2Proof.Machine
end

section
/-! The buffer and control commands (43_buffer_and_control.md R120 to R128). -/

open Sys2Proof.Claims

namespace Sys2Proof.Machine

/-! ### The illegal words of the control opcodes -/

/-- R51, R52: in format N the 24 bits below the opcode are reserved. -/
theorem decodeN_of_reserved (op : BitVec 8) {x : BitVec 24} (hx : x ≠ 0) (i : Instr) :
    decodeN (op ++ x) i = .error .reservedBits := by
  have hlow : (op ++ x).extractLsb' 0 24 = x := BitVec.extractLsb'_append_eq_right
  rw [decodeN, hlow]
  exact if_neg hx

/-- R50: the opcode is the upper eight bits. -/
theorem opcodeOf_append (op : BitVec 8) (x : BitVec 24) : opcodeOf (op ++ x) = op := BitVec.extractLsb'_append_eq_left

theorem decode_nop_of_reserved {x : BitVec 24} (hx : x ≠ 0) : decode (0x00#8 ++ x) = .error .reservedBits := by
  simp only [decode, opcodeOf_append, decodeN_of_reserved _ hx]

theorem decode_beginEncode_of_reserved {x : BitVec 24} (hx : x ≠ 0) : decode (0x01#8 ++ x) = .error .reservedBits := by
  simp only [decode, opcodeOf_append, decodeN_of_reserved _ hx]

/-- R56 (d): only the CSR numbers 0, 1 and 2 are writable. -/
theorem decode_csrw_of_not_writable {csr : BitVec 8} (h : 2 < csr.toNat) (imm16 : BitVec 16) :
    decode (encodeCI 0x08#8 csr imm16) = .error .csrNotWritable := by
  have hci : decode (encodeCI 0x08#8 csr imm16) = decodeCI (encodeCI 0x08#8 csr imm16) := by
    simp only [decode, opcodeOf_encodeCI]
  rw [hci, decodeCI, csrField_encodeCI]
  split
  case h_1 | h_2 | h_3 => exact absurd h (by decide)
  case h_4 => rfl

/-! ### While a fault is latched -/

/-- R144: a command other than `BEGIN` is discarded. -/
theorem exec_of_faulted {i : Instr} {s : State} (hi : i ≠ .beginEncode) (hf : s.fault = true) : exec i s = .next s := by
  obtain ⟨e, he, -⟩ := exec_eq_runCommand hi s
  rw [he, runCommand_faulted hf]

/-- R144: a word other than `BEGIN`'s is discarded, decoded or not. -/
theorem step_of_faulted {s : State} {w : Word} {rest : List HostInput} (hf : s.fault = true)
    (hin : s.input = .command w :: rest) (hw : w ≠ beginWord) : step s = .next { s with input := rest } := by
  simp only [step, takeInput, hin, issue, hf, hw, if_true, if_false]

/-! ### The control commands -/

/-- Settles O52: the command has no check, and commits the state as it is. -/
theorem nopOnlyCounts : Obligations.NopOnlyCounts :=
  ⟨onlyWord_encode .nop, fun _ => decode_nop_of_reserved, fun _ => exec_of_faulted (by decide),
   fun s hf => runCommand_commit hf (encode .nop) s⟩

/-- Settles O53: an illegal word of the opcode is not `BEGIN`'s, and `BEGIN` itself has no check. -/
theorem beginStartsAFreshEncode : Obligations.BeginStartsAFreshEncode := by
  refine ⟨onlyWord_encode .beginEncode, fun _ => decode_beginEncode_of_reserved, fun x s rest hx hf hin => ?_,
    fun _ _ => exec_of_faulted, fun _ => rfl⟩
  refine step_of_faulted hf hin fun hw => ?_
  have hillegal := decode_beginEncode_of_reserved hx
  rw [hw] at hillegal
  cases hillegal

/-- Settles O54: the command has no check, and its number is one of the three the decoder accepts. -/
theorem csrwWritesTheConfiguration : Obligations.CsrwWritesTheConfiguration :=
  fun v => ⟨onlyWord_encode (.csrwT v), onlyWord_encode (.csrwD v), onlyWord_encode (.csrwN v),
    fun _ h => decode_csrw_of_not_writable h v, fun s hf =>
    ⟨runCommand_commit hf (encode (.csrwT v)) (s.setCfgT v), runCommand_commit hf (encode (.csrwD v)) (s.setCfgD v),
     runCommand_commit hf (encode (.csrwN v)) (s.setCfgN v)⟩⟩

/-! ### What the pushes and the loads share -/

section
variable {s : State} (hf : s.fault = false) (w : Word)
include hf

/-- R123, R124: a push into a full buffer faults, and any other appends its byte. -/
theorem runCommand_pushByte (v : Byte) :
    (s.sizes.dmax ≤ s.dlen.toNat → runCommand w s (pushByte s v) = .next (faulted s 9 w)) ∧
    (s.dlen.toNat < s.sizes.dmax →
      ∃ m : Memory, (∀ a, Memory.read m a = if a = s.dlen.toNat then some v else s.readByte .dmem a) ∧
        runCommand w s (pushByte s v) = .next { s with dmem := m, dlen := s.dlen + 1, cseq := s.cseq + 1 }) := by
  refine ⟨fun hfull => ?_, fun hroom => ⟨Memory.write s.dmem s.dlen.toNat v, Memory.read_write s.dmem _ v, ?_⟩⟩
  · rw [pushByte_raise.mpr ⟨hfull, rfl⟩]
    exact runCommand_raise hf w .bufferBounds
  · rw [pushByte_commit.mpr ⟨hroom, rfl⟩]
    exact runCommand_commit hf w (s.pushData v)

variable {sp : Space} (rd : Reg) {a : BitVec 16}

/-- R125 to R128: a load of an index that holds no value faults. -/
theorem runCommand_loadByte_of_not_valid (h : s.validIndex sp a.toNat = false) :
    runCommand w s (loadByte s sp rd a) = .next (faulted s 9 w) := by
  rw [loadByte_raise.mpr ⟨h, rfl⟩]
  exact runCommand_raise hf w .bufferBounds

/-- R125 to R128: a load of an index that holds a value completes and writes it to its destination. -/
theorem runCommand_loadByte_of_valid {v : Byte} (h : s.validIndex sp a.toNat = true)
    (hv : s.readByte sp a.toNat = some v) :
    runCommand w s (loadByte s sp rd a) = .next { s with g := s.g.set rd.toNat v rd.isLt, cseq := s.cseq + 1 } := by
  rw [loadByte_commit.mpr ⟨h, v, hv, rfl⟩]
  exact runCommand_commit hf w (s.setReg rd v)

/-- R125 to R127: a load from a buffer whose first `n` bytes hold a value. -/
theorem runCommand_loadByte_below {n : Nat} (hn : s.validIndex sp a.toNat = decide (a.toNat < n)) :
    (n ≤ a.toNat → runCommand w s (loadByte s sp rd a) = .next (faulted s 9 w)) ∧
    (∀ v, a.toNat < n → s.readByte sp a.toNat = some v →
      runCommand w s (loadByte s sp rd a) =
        .next { s with g := s.g.set rd.toNat v rd.isLt, cseq := s.cseq + 1 }) :=
  ⟨fun h => runCommand_loadByte_of_not_valid hf w rd (hn.trans (decide_eq_false (not_lt.mpr h))),
   fun _ h => runCommand_loadByte_of_valid hf w rd (hn.trans (decide_eq_true h))⟩

end

/-- R30, R36: GEN holds the coefficients 0 to `GDEG` inclusive, and none with `GDEG = 0`. -/
theorem State.validIndex_gen {s : State} {i : Nat} :
    s.validIndex .gen i = true ↔ s.gdeg ≠ 0 ∧ i ≤ s.gdeg.toNat := by
  simp only [State.validIndex, Bool.and_eq_true, bne_iff_ne, decide_eq_true_eq]

/-! ### The pushes -/

/-- Settles O55. -/
theorem dpushiAppends : Obligations.DpushiAppends :=
  fun v => ⟨onlyWord_encode (.dpushi v), fun _ hf => runCommand_pushByte hf (encode (.dpushi v)) v⟩

/-- Settles O56: the byte is the register's. -/
theorem dpushAppendsARegister : Obligations.DpushAppendsARegister :=
  fun rs => ⟨onlyWord_encode (.dpush rs), fun s hf => runCommand_pushByte hf (encode (.dpush rs)) (s.reg rs)⟩

/-! ### The loads -/

/-- Settles O57: the bytes below `DLEN` hold a value. -/
theorem lddLoadsFromDmem : Obligations.LddLoadsFromDmem :=
  fun rd a => ⟨onlyWord_encode (.ldd rd a), fun _ hf => runCommand_loadByte_below hf (encode (.ldd rd a)) rd rfl⟩

/-- Settles O58: the bytes below `ELEN` hold a value. -/
theorem ldeLoadsFromEmem : Obligations.LdeLoadsFromEmem :=
  fun rd a => ⟨onlyWord_encode (.lde rd a), fun _ hf => runCommand_loadByte_below hf (encode (.lde rd a)) rd rfl⟩

/-- Settles O59: the bytes below `OLEN` hold a value. -/
theorem ldoLoadsFromOmem : Obligations.LdoLoadsFromOmem :=
  fun rd a => ⟨onlyWord_encode (.ldo rd a), fun _ hf => runCommand_loadByte_below hf (encode (.ldo rd a)) rd rfl⟩

/-- Settles O60: GEN is empty or ends at `GDEG`, which itself is in range. -/
theorem ldgLoadsFromGen : Obligations.LdgLoadsFromGen := by
  refine fun rd a => ⟨onlyWord_encode (.ldg rd a), fun s hf => ⟨fun hout => ?_, fun v hne hle hv => ?_⟩⟩
  · refine runCommand_loadByte_of_not_valid hf _ rd (Bool.eq_false_iff.mpr fun hvalid => ?_)
    obtain ⟨hne, hle⟩ := State.validIndex_gen.mp hvalid
    exact hout.elim hne (not_lt.mpr hle)
  · exact runCommand_loadByte_of_valid hf _ rd (State.validIndex_gen.mpr ⟨hne, hle⟩) hv

end Sys2Proof.Machine
end

section
/-! The issue procedure and the fault latch (60_exceptions.md R142 to R145, R154). -/

open Sys2Proof.Claims

namespace Sys2Proof.Machine

/-! ### What an issued word runs -/

/-- R177: a step on a word issues it. -/
theorem step_of_command {s : State} {w : Word} {rest : List HostInput} (hin : s.input = .command w :: rest) :
    step s = issue w { s with input := rest } := by
  simp only [step, takeInput, hin]

/-- R144: the word that is executed while a fault is latched is `BEGIN`'s. -/
theorem decode_beginWord : decode beginWord = .ok .beginEncode := decode_encode .beginEncode

/-- R154: a legal word runs its command, in every state: a command that is discarded executes to no change. -/
theorem issue_of_decode {w : Word} {i : Instr} (hi : decode w = .ok i) (s : State) : issue w s = exec i s := by
  cases hf : s.fault with
  | false => simp [issue, hf, hi]
  | true =>
    by_cases hw : w = beginWord
    · subst hw
      cases decode_beginWord.symm.trans hi
      simp [issue, hf]
    · have hne : i ≠ .beginEncode := by
        rintro rfl
        exact hw (encode_of_decode hi).symm
      simp [issue, hf, hw, exec_of_faulted hne hf]

theorem step_of_decode {s : State} {w : Word} {rest : List HostInput} {i : Instr} (hi : decode w = .ok i)
    (hin : s.input = .command w :: rest) : step s = exec i { s with input := rest } :=
  (step_of_command hin).trans (issue_of_decode hi _)

/-! ### The two outcomes while no fault is latched -/

/-- R154: a command executed while no fault is latched completes, or raises a cause and takes the fault entry. -/
theorem exec_completes_or_faults {i : Instr} {s t : State} (hf : s.fault = false) (h : exec i s = .next t) :
    (t.fault = false ∧ t.cseq = s.cseq + 1) ∨ ∃ c, Raises s c i ∧ t = s.enterFault c (encode i) := by
  rcases exec_outcome h with ⟨hf', -⟩ | ⟨u, hu, -, rfl⟩ | ⟨-, hfault⟩
  · cases hf.symm.trans hf'
  · obtain ⟨huf, hseq, -⟩ := hu.keeps fun _ => hf
    exact .inl ⟨huf, congrArg (· + 1) hseq⟩
  · exact .inr hfault

/-- R154: a word issued while no fault is latched completes or takes the fault entry. -/
theorem issue_completes_or_faults {w : Word} {s t : State} (hf : s.fault = false) (h : issue w s = .next t) :
    (t.fault = false ∧ t.cseq = s.cseq + 1) ∨ ∃ code, t = faulted s code w := by
  rcases issue_outcome h with ⟨hf', -⟩ | ⟨-, -, rfl⟩ | ⟨i, hi, hexec⟩
  · cases hf.symm.trans hf'
  · exact .inr ⟨Cause.illegalCommand.code, rfl⟩
  · obtain rfl := encode_of_decode hi
    exact (exec_completes_or_faults hf hexec).imp_right fun ⟨c, _, ht⟩ => ⟨c.code, ht⟩

/-- R143: a command that leaves a fault where there was none has raised a cause. -/
theorem exec_faults {i : Instr} {s t : State} (hf : s.fault = false) (h : exec i s = .next t) (hft : t.fault = true) :
    ∃ c, Raises s c i ∧ t = s.enterFault c (encode i) :=
  (exec_completes_or_faults hf h).resolve_left fun ⟨hft', _⟩ => Bool.noConfusion (hft.symm.trans hft')

/-- Settles O7: the branches of the issue procedure, and its two outcomes while no fault is latched. -/
theorem issueProcedure : Obligations.IssueProcedure := by
  rintro s _ w rest hin rfl
  refine ⟨fun _ hw => ?_, fun hf hw => step_of_faulted hf hin hw, fun _ hf he => step_of_illegal he hin hf,
    fun _ _ hi => step_of_decode hi hin, fun t hf h => ?_⟩
  · subst hw
    exact step_of_decode decode_beginWord hin
  · rw [step_of_command hin] at h
    exact issue_completes_or_faults (s := { s with input := rest }) hf h

/-- Settles O8: a command or a word that leaves a fault has not completed. -/
theorem faultEntryIsPrecise : Obligations.FaultEntryIsPrecise := by
  refine ⟨fun i s t hf h hft => ?_, fun s t w rest hf hin h hft => ?_⟩
  · obtain ⟨c, -, rfl⟩ := exec_faults hf h hft
    exact ⟨c.code, rfl⟩
  · rw [step_of_command hin] at h
    rcases issue_completes_or_faults (s := { s with input := rest }) hf h with ⟨hft', -⟩ | hfault
    · cases hft.symm.trans hft'
    · exact hfault

/-- Settles O11: the cause a command has raised is one of its row. -/
theorem causesByCommand : Obligations.CausesByCommand := by
  intro i s t hf h hft
  obtain ⟨c, hc, rfl⟩ := exec_faults hf h hft
  exact hc.code_mem_causesOf

/-! ### While a fault is latched -/

/-- Settles O9: every word and every command but `BEGIN` is discarded, and `BEGIN` clears the fault record. -/
theorem faultedEngineDiscards : Obligations.FaultedEngineDiscards :=
  ⟨fun _ _ _ => step_of_faulted, fun _ _ hf hi => exec_of_faulted hi hf, fun s => ⟨s.startEncode.complete, rfl, rfl⟩⟩

/-- Settles O10: of the host's inputs, none and a discarded word keep the fault, reset and `BEGIN` clear it. -/
theorem faultLeftOnlyByBeginOrReset : Obligations.FaultLeftOnlyByBeginOrReset := by
  intro s t hf h
  rcases step_outcome h with ⟨hin, rfl⟩ | ⟨rest, hin, rfl⟩ | ⟨w, rest, hin, -⟩
  · simp [hin, hf]
  · exact ⟨fun _ => .inl ⟨rest, hin⟩, fun _ => rfl⟩
  · by_cases hw : w = beginWord
    · subst hw
      rw [step_of_decode decode_beginWord hin] at h
      cases h
      exact ⟨fun _ => .inr ⟨rest, hin⟩, fun _ => rfl⟩
    · cases (step_of_faulted hf hin hw).symm.trans h
      have hne : w ≠ 0x01000000#32 := hw
      simp [hin, hf, hne]

end Sys2Proof.Machine
end

section
/-! Where a space holds a value (20_memory.md R30), and what a host read gives (70_reset_and_hazards.md R176). -/

namespace Sys2Proof.Machine

/-! ### The valid entries of each space -/

/-- R30, R31: EXP holds the entries 0 to 254 while `TV = 1`. -/
theorem State.validIndex_exp {s : State} {i : Nat} : s.validIndex .exp i = true ↔ s.tv = true ∧ i ≤ 254 := by
  simp only [State.validIndex, Bool.and_eq_true, decide_eq_true_eq]

/-- R30, R32: LOG holds the entries 1 to 255 while `TV = 1`. -/
theorem State.validIndex_log {s : State} {i : Nat} :
    s.validIndex .log i = true ↔ s.tv = true ∧ 1 ≤ i ∧ i ≤ 255 := by
  simp only [State.validIndex, Bool.and_eq_true, decide_eq_true_eq, and_assoc]

theorem State.validIndex_dmem {s : State} {i : Nat} : s.validIndex .dmem i = true ↔ i < s.dlen.toNat :=
  decide_eq_true_iff

theorem State.validIndex_emem {s : State} {i : Nat} : s.validIndex .emem i = true ↔ i < s.elen.toNat :=
  decide_eq_true_iff

theorem State.validIndex_omem {s : State} {i : Nat} : s.validIndex .omem i = true ↔ i < s.olen.toNat :=
  decide_eq_true_iff

/-! ### Host reads -/

theorem State.hostRead_reg (s : State) (r : Reg) : s.hostRead (.reg r.toNat) = some ((s.reg r).setWidth 32) := by
  have hr : r.toNat < 8 := r.isLt
  rw [State.hostRead, Vector.getElem?_eq_getElem hr]
  rfl

theorem State.hostRead_reg_eq_none (s : State) {n : Nat} (hn : 8 ≤ n) : s.hostRead (.reg n) = none := by
  rw [State.hostRead, Vector.getElem?_eq_none hn]
  rfl

/-- R14: the numbers that exist. -/
theorem State.isSome_csr (s : State) (n : Nat) : (s.csr n).isSome = true ↔ n ≤ 0x0C ∨ (0x10 ≤ n ∧ n ≤ 0x16) := by
  unfold State.csr
  split
  case h_21 => grind
  all_goals simp

theorem State.hostRead_byte_of_valid {s : State} {sp : Space} {a : Nat} (h : s.validIndex sp a = true) :
    s.hostRead (.byte sp a) = (s.readByte sp a).map fun v => v.setWidth 32 :=
  if_pos h

theorem State.hostRead_byte_of_not_valid {s : State} {sp : Space} {a : Nat} (h : ¬ s.validIndex sp a = true) :
    s.hostRead (.byte sp a) = none :=
  if_neg h

/-- Settles O28: an entry that is not valid gives nothing, and each bound leaves the valid entries of its space. -/
theorem hostReads : Obligations.HostReads := by
  intro s
  refine ⟨s.hostRead_reg, fun _ => s.hostRead_reg_eq_none, s.isSome_csr, fun _ _ => State.hostRead_byte_of_valid,
    fun htv a => ⟨?_, ?_⟩, fun a ha => ?_, fun a ha => ?_, fun a ha => ?_, fun a ha => ?_, fun a ha => ?_, fun a ha => ?_⟩
  all_goals refine State.hostRead_byte_of_not_valid fun hvalid => ?_
  · exact absurd (htv.symm.trans (State.validIndex_exp.mp hvalid).1) (by decide)
  · exact absurd (htv.symm.trans (State.validIndex_log.mp hvalid).1) (by decide)
  · exact absurd (State.validIndex_exp.mp hvalid).2 (not_le.mpr ha)
  · obtain ⟨-, hpos, hle⟩ := State.validIndex_log.mp hvalid
    omega
  · exact absurd (State.validIndex_dmem.mp hvalid) (not_lt.mpr ha)
  · exact absurd (State.validIndex_emem.mp hvalid) (not_lt.mpr ha)
  · exact absurd (State.validIndex_omem.mp hvalid) (not_lt.mpr ha)
  · obtain ⟨hne, hle⟩ := State.validIndex_gen.mp hvalid
    exact ha.elim hne (not_lt.mpr hle)

end Sys2Proof.Machine
end

section
/-! What each host input runs (60_exceptions.md R153, 70_reset_and_hazards.md R170, R177), and the way back to the reset
state but for the registers and `CSEQ` (R173). -/

namespace Sys2Proof.Machine

/-- R153: with no input the engine keeps its state. -/
theorem step_of_idle {s : State} (hin : s.input = []) : step s = .next s := by
  simp only [step, takeInput, hin]

/-- R170: reset, in any state. -/
theorem step_of_reset {s : State} {rest : List HostInput} (hin : s.input = .reset :: rest) :
    step s = .next (State.resetEngine { s with input := rest }) := by
  simp only [step, takeInput, hin]

/-- Settles O6. -/
theorem stepRunsTheDecodedCommand : Obligations.StepRunsTheDecodedCommand :=
  ⟨fun _ _ _ _ hin hi => step_of_decode hi hin, fun _ => step_of_idle⟩

/-- Settles O24. -/
theorem resetInputResets : Obligations.ResetInputResets := fun _ _ => step_of_reset

/-- R79, R31, R32: after `GFFIN` the tables hold no value, whether or not it found any. -/
theorem State.Inv.exec_gffin {s : State} (h : s.Inv) (hf : s.fault = false) :
    exec .gffin s = .next { s with exp := [], log := [], tv := false, cseq := s.cseq + 1 } := by
  obtain ⟨-, hagain, hteardown⟩ := gffinTearsTheTablesDown
  cases htv : s.tv with
  | true => exact hteardown s hf htv
  | false =>
    obtain ⟨hexp, hlog⟩ := h.noTables htv
    simp only [hagain s hf htv, hexp, hlog, htv]

/-- Settles O25: `GFFIN` resets the tables, and `BEGIN` everything else but the registers and `CSEQ`. -/
theorem gffinThenBeginIsNearlyReset : Obligations.GffinThenBeginIsNearlyReset := by
  intro s hs hf
  obtain ⟨-, -, -, -, hbegin⟩ := beginStartsAFreshEncode
  have hcount : s.cseq + 1 + 1 = s.cseq + 2 := BitVec.add_assoc ..
  refine ⟨_, hs.exec_gffin hf, ?_⟩
  rw [hbegin, hcount]
  rfl

end Sys2Proof.Machine
end

section
/-! No command stops the model in a state that meets the invariants: every location its rule reads holds a value
(00_scope.md R8), so that every word has an outcome (70_reset_and_hazards.md R181). -/

open Sys2Proof.Claims

namespace Sys2Proof.Machine

/-! ### What the spaces hold -/

/-- A space that lists `n` indices in a row from `a` is filled from there. -/
theorem Memory.eq_fillFrom {m : Memory} {a n : Nat} (h : m.map Prod.fst = List.range' a n) :
    m = Memory.fillFrom a (m.map Prod.snd) := by
  induction m generalizing a n with
  | nil => rfl
  | cons e m ih =>
    obtain ⟨b, v⟩ := e
    cases n with
    | zero => cases h
    | succ n =>
      rw [List.range'_succ, List.map_cons, List.cons.injEq] at h
      obtain ⟨hb, hm⟩ := h
      rw [List.map_cons, Memory.fillFrom, ← ih hm, ← hb]

/-- R19: a buffer that holds its first `n` bytes is a list of `n` bytes. -/
theorem Memory.exists_eq_fill {m : Memory} {n : Nat} (h : Memory.holdsFirst m n) :
    ∃ bs : List Byte, bs.length = n ∧ m = Memory.fill bs := by
  refine ⟨m.map Prod.snd, ?_, Memory.eq_fillFrom (h.trans List.range_eq_range')⟩
  simpa using congrArg List.length h

/-- R19: below its valid length a buffer holds a value. -/
theorem Memory.exists_read {m : Memory} {n a : Nat} (h : Memory.holdsFirst m n) (ha : a < n) :
    ∃ v, Memory.read m a = some v := by
  obtain ⟨bs, rfl, rfl⟩ := Memory.exists_eq_fill h
  exact ⟨bs[a], by rw [Memory.read_fill, List.getElem?_eq_getElem ha]⟩

namespace State.Inv

variable {s : State} (h : s.Inv)
include h

/-- R25.3: with `TV = 1` the tables hold what R74 states. -/
theorem tablesBuilt (htv : s.tv = true) : s.TablesBuilt := by
  obtain ⟨hexp, hlog⟩ := h.tables htv
  refine ⟨htv, fun i hi => ⟨?_, ?_⟩⟩
  · exact (congrArg (Memory.read · i) hexp).trans (builtTables_hold.exp hi)
  · exact (congrArg (Memory.read · _) hlog).trans (builtTables_hold.log hi)

/-- R19, R33: DMEM holds some data. -/
theorem exists_holdsData : ∃ d, HoldsData s d := by
  obtain ⟨d, hlen, hd⟩ := Memory.exists_eq_fill h.dmem
  exact ⟨d, hlen, fun x _ => (congrArg (Memory.read · x) hd).trans (Memory.read_fill d x)⟩

/-- R30: every valid entry of a space holds a value. -/
theorem exists_readByte {sp : Space} {a : Nat} (ha : s.validIndex sp a = true) : ∃ v, s.readByte sp a = some v := by
  cases sp with
  | exp =>
    obtain ⟨htv, hle⟩ := validIndex_exp.mp ha
    exact ⟨_, (h.tablesBuilt htv).hold.exp (by omega)⟩
  | log =>
    obtain ⟨htv, hpos, hle⟩ := validIndex_log.mp ha
    have hbyte : (BitVec.ofNat 8 a).toNat = a := Nat.mod_eq_of_lt (by omega)
    have hne : BitVec.ofNat 8 a ≠ 0x00#8 := fun h0 => by simp [h0] at hbyte; omega
    obtain ⟨i, hi, hia⟩ := exists_alphaPow_eq hne
    have hlog := (h.tablesBuilt htv).hold.log hi
    rw [hia, hbyte] at hlog
    exact ⟨_, hlog⟩
  | dmem => exact Memory.exists_read h.dmem (validIndex_dmem.mp ha)
  | emem => exact Memory.exists_read h.emem (validIndex_emem.mp ha)
  | omem => exact Memory.exists_read h.omem (validIndex_omem.mp ha)
  | gen =>
    obtain ⟨hne, hle⟩ := validIndex_gen.mp ha
    have hgen : s.gen = Memory.fill (refGenerator s.gdeg.toNat) := h.gen.trans (if_neg hne)
    have hlt : a < (refGenerator s.gdeg.toNat).length := by rw [refGenerator_length]; omega
    exact ⟨_, (congrArg (Memory.read · a) hgen).trans
      ((Memory.read_fill _ a).trans (List.getElem?_eq_getElem hlt))⟩

end State.Inv

/-! ### Rules that do not get stuck -/

theorem commit_ne_stuck (u : State) : Effect.commit u ≠ .stuck := nofun

theorem withValue_ne_stuck {α : Type} {v : Option α} {x : α} {k : α → Effect} (hv : v = some x) (hk : k x ≠ .stuck) :
    Effect.withValue v k ≠ .stuck := by
  subst hv
  exact hk

theorem withValue_commit_ne_stuck {α : Type} {v : Option α} {k : α → State} (hv : ∃ x, v = some x) :
    Effect.withValue v (fun x => .commit (k x)) ≠ .stuck := by
  obtain ⟨x, hx⟩ := hv
  exact withValue_ne_stuck hx (commit_ne_stuck _)

theorem ite_raise_ne_stuck {p : Prop} [Decidable p] {c : Cause} {e : Effect} (he : ¬ p → e ≠ .stuck) :
    (if p then Effect.raise c else e) ≠ .stuck := by
  split
  · nofun
  · next hp => exact he hp

theorem needTables_ne_stuck {s : State} {e : Effect} (he : s.tv = true → e ≠ .stuck) : needTables s e ≠ .stuck := by
  unfold needTables
  split
  · next htv => exact he htv
  · nofun

theorem withCount_ne_stuck {s : State} {v : BitVec 16} {k : Nat → Effect} (hk : ∀ r, 1 ≤ r → k r ≠ .stuck) :
    withCount s v k ≠ .stuck :=
  ite_raise_ne_stuck fun hpos => ite_raise_ne_stuck fun _ => hk _ (by omega)

theorem pushByte_ne_stuck (s : State) (v : Byte) : pushByte s v ≠ .stuck :=
  ite_raise_ne_stuck fun _ => commit_ne_stuck _

namespace State.Inv

variable {s : State} (h : s.Inv)
include h

theorem loadByte_ne_stuck (sp : Space) (rd : Reg) (a : BitVec 16) : loadByte s sp rd a ≠ .stuck := by
  unfold loadByte
  split
  · next ha => exact withValue_commit_ne_stuck (h.exists_readByte ha)
  · nofun

/-- R108: every slice lies within the data, and the tables give the generator and the EC bytes. -/
theorem ilvEffect_ne_stuck : ilvEffect s ≠ .stuck := by
  refine needTables_ne_stuck fun htv => ?_
  cases hl : s.layout with
  | error c => nofun
  | ok l =>
    refine ite_raise_ne_stuck fun _ => ite_raise_ne_stuck fun hdata => ?_
    obtain ⟨hlen, hcov⟩ := not_or.mp hdata
    obtain ⟨hok, rfl⟩ := layoutOf_ok_iff.mp hl
    obtain ⟨data, hd⟩ := h.exists_holdsData
    have hle : (configuredLayout s.cfgT.toNat s.cfgD.toNat s.cfgN.toNat).covered ≤ data.length := by
      rw [hd.1]
      omega
    obtain ⟨slices, ecs, -, -, -, henc⟩ := encodeBlocks_of_holdsData (h.tablesBuilt htv) hd hok hle
    exact withValue_ne_stuck henc (ite_raise_ne_stuck fun _ => commit_ne_stuck _)

/-- R8: a command other than `BEGIN` is the execution of a rule that does not get stuck. -/
theorem exists_effect_ne_stuck {i : Instr} (hi : i ≠ .beginEncode) :
    ∃ e, exec i s = runCommand (encode i) s e ∧ e ≠ .stuck := by
  cases i with
  | beginEncode => exact absurd rfl hi
  | nop | gfinit | gffin | csrwT | csrwD | csrwN | li | gfadd => exact ⟨_, rfl, commit_ne_stuck _⟩
  | dpushi | dpush => exact ⟨_, rfl, pushByte_ne_stuck s _⟩
  | ldd rd a | lde rd a | ldo rd a | ldg rd a => exact ⟨_, rfl, h.loadByte_ne_stuck _ rd a⟩
  | ilv => exact ⟨_, rfl, h.ilvEffect_ne_stuck⟩
  | gfmul rd ra rb =>
    exact ⟨_, rfl, needTables_ne_stuck fun htv =>
      withValue_commit_ne_stuck ⟨_, (h.tablesBuilt htv).hold.gfmul_eq _ _⟩⟩
  | gfdiv rd ra rb =>
    refine ⟨_, rfl, needTables_ne_stuck fun htv => ite_raise_ne_stuck fun hb => ?_⟩
    obtain ⟨j, hj, hjb⟩ := exists_alphaPow_eq hb
    exact withValue_commit_ne_stuck ⟨_, hjb ▸ (h.tablesBuilt htv).hold.gfdiv_eq _ hj⟩
  | gfexp rd ra =>
    have hexp : (s.reg ra).toNat % 255 < 255 := Nat.mod_lt _ (by decide)
    exact ⟨_, rfl, needTables_ne_stuck fun htv =>
      withValue_commit_ne_stuck (h.exists_readByte (validIndex_exp.mpr ⟨htv, by omega⟩))⟩
  | gflog rd ra =>
    refine ⟨_, rfl, needTables_ne_stuck fun htv => ite_raise_ne_stuck fun ha => ?_⟩
    have hlog : 1 ≤ (s.reg ra).toNat ∧ (s.reg ra).toNat ≤ 255 := by bv_omega
    exact withValue_commit_ne_stuck (h.exists_readByte (validIndex_log.mpr ⟨htv, hlog⟩))
  | rsgen v =>
    exact ⟨_, rfl, needTables_ne_stuck fun htv => withCount_ne_stuck fun r _ =>
      withValue_commit_ne_stuck ⟨_, (h.tablesBuilt htv).hold.generator_eq r⟩⟩
  | rsenc v =>
    refine ⟨_, rfl, needTables_ne_stuck fun htv => withCount_ne_stuck fun r hr => ?_⟩
    obtain ⟨d, hd⟩ := h.exists_holdsData
    obtain ⟨e, hrem, -⟩ := (h.tablesBuilt htv).hold.exists_remainder hr d
    exact withValue_ne_stuck ((h.tablesBuilt htv).hold.generator_eq r)
      (withValue_ne_stuck (slice_zero_of_holdsData hd) (withValue_commit_ne_stuck ⟨e, hrem⟩))
  | ilayout =>
    refine ⟨_, rfl, ?_⟩
    cases s.layout <;> nofun
  | onext rd =>
    refine ⟨_, rfl, ite_raise_ne_stuck fun hlt => withValue_commit_ne_stuck (h.exists_readByte ?_)⟩
    exact validIndex_omem.mpr (BitVec.lt_def.mp (BitVec.not_le.mp hlt))

/-- R181: every command gives a next state. -/
theorem exists_exec_eq_next (i : Instr) : ∃ t, exec i s = .next t := by
  by_cases hi : i = .beginEncode
  · subst hi
    exact ⟨_, rfl⟩
  · obtain ⟨e, he, hne⟩ := h.exists_effect_ne_stuck hi
    by_contra hstop
    exact hne (runCommand_stop fun t ht => hstop ⟨t, he.trans ht⟩)

/-- R181: every issued word gives a next state. -/
theorem exists_issue_eq_next (w : Word) : ∃ t, issue w s = .next t := by
  unfold issue
  split
  · split
    · exact h.exists_exec_eq_next .beginEncode
    · exact ⟨s, rfl⟩
  · split
    · exact ⟨_, rfl⟩
    · next i _ => exact h.exists_exec_eq_next i

end State.Inv

/-- Settles O21: every word gives a next state; while a fault is latched `BEGIN` completes and any other word is discarded,
and otherwise the word completes or takes the fault entry. -/
theorem everyWordHasAnOutcome : Obligations.EveryWordHasAnOutcome := by
  intro s w rest hs hin
  obtain ⟨t, ht⟩ := (hs.withInput rest).exists_issue_eq_next w
  refine ⟨t, (step_of_command hin).trans ht, ?_⟩
  rcases Bool.eq_false_or_eq_true s.fault with hf | hf
  · by_cases hw : w = beginWord
    · subst hw
      rw [issue_of_decode decode_beginWord] at ht
      cases ht
      exact .inl ⟨rfl, rfl⟩
    · rw [← step_of_command hin, step_of_faulted hf hin hw] at ht
      cases ht
      exact .inr (.inr ⟨hf, rfl⟩)
  · exact (issue_completes_or_faults (s := { s with input := rest }) hf ht).imp_right fun hfault => .inl ⟨hf, hfault⟩

end Sys2Proof.Machine
end
